-- ==== Sys2Proof/Word.lean ====
section
/-! DEFINITION. The data units of the engine (spec 00_scope R7, R8; 20_memory R50). -/
namespace Sys2Proof

/-- A byte: 8 bits (00 R8). -/
abbrev Byte := BitVec 8

/-- A word, a register's value, a command word: 32 bits (00 R8, 20 R52). -/
abbrev Word := BitVec 32

/-- A byte address within the 4 KiB window: the 12 bits of `paddr` (20 R50). -/
abbrev Addr := BitVec 12

/-- Four contiguous bytes `(a0, a1, a2, a3)`, `a0` first: a schedule word, and a column of a block (00 R8). -/
structure Column where
  a0 : Byte
  a1 : Byte
  a2 : Byte
  a3 : Byte
deriving DecidableEq, Repr

/-- A block of 16 bytes, a 4 by 4 byte matrix read column by column: byte `4c + r` is row `r` of column `c` (00 R8). -/
structure Block where
  c0 : Column
  c1 : Column
  c2 : Column
  c3 : Column
deriving DecidableEq, Repr

end Sys2Proof
end

