-- ==== Sys2Proof/Config.lean ====
section
/-! DEFINITION. What an implementation fixes (spec 00_scope R5) and the free values (93 U1, U3). -/
namespace Sys2Proof

/-- SCHED_WORDS: the words of the schedule RAM (00 R5). -/
def Config.schedWords : Nat := 60

/-- MAX_ROUNDS: the largest round count EXPAND takes (00 R5). -/
def Config.maxRounds : Nat := 14

/-- TRACE_ENTRIES: the entries of the trace buffer (00 R5). -/
def Config.traceEntries : Nat := 15

/-- The `n`-th draw: the value an output register reads as while BUSY = 1 (20 R61, 93 U1). It has no body: nothing
constrains it. A FREE VALUE (log 3); safe. -/
opaque Config.draw : Nat → Word

/-- The number of the 4 KiB page the platform places the window at (00 R5 BASE, 92 P1). OPEN (log 6); safe. -/
opaque Config.basePage : Nat

/-- BASE, "a 4 KiB-aligned address" (92 P1). -/
def Config.base : Nat := 4096 * Config.basePage

end Sys2Proof
end

