-- ==== Sys2Proof/Syntax.lean ====
section
/-! DEFINITION. The commands of the engine (spec 30_encoding R74, one constructor per row of opcode_table.json), the fields
of a command word (R71) and the assembler's lines (R79). -/
namespace Sys2Proof

/-- A legal command (30 R74). An operand is an 8-bit field, FA first, then FB; every value of it is a legal encoding (R78). -/
inductive Instr where
  | nop
  | gfmul (a b : Byte)
  | sbox (x : Byte)
  | invsbox (y : Byte)
  | rcon (i : Byte)
  | mixcol
  | invmixcol
  | expand (klen rounds : Byte)
  | derive (nk off : Byte)
  | enc (klen blen : Byte)
  | dec (klen blen : Byte)
  | enct (klen blen : Byte)
  | dect (klen blen : Byte)
  | srst
deriving DecidableEq, Repr

/-- The four fields of any command word, legal or not (30 R71). -/
structure Command where
  op : Byte
  fa : Byte
  fb : Byte
  rsv : Byte
deriving DecidableEq, Repr

/-- The mnemonics of the assembler (30 R79). -/
inductive Mnemonic where
  | nop | gfmul | sbox | invsbox | rcon | mixcol | invmixcol | expand | derive | enc | dec | enct | dect | srst
deriving DecidableEq, Repr

/-- An assembler line: a mnemonic and its operand fields as written, numbers of any size (30 R79). -/
structure AsmLine where
  mnemonic : Mnemonic
  operands : List Nat
deriving DecidableEq, Repr

end Sys2Proof
end

