-- ==== Sys2Proof/WellFormed.lean ====
section
/-! DEFINITION. Which command words are legal (spec 30_encoding R75, R76) and which assembler lines an assembler takes (R79).
A term of `Instr` needs no check of its own: its operands are bytes and every byte is encodable (R78). -/
namespace Sys2Proof

/-- How many of FA, FB an assigned opcode uses (30 R74: 0, FA alone, or both); `none`: the opcode is not assigned (R75). -/
def usedFields (op : Byte) : Option Nat :=
  match op.toNat with
  | 0x00 | 0x05 | 0x06 | 0x3F => some 0
  | 0x02 | 0x03 | 0x04 => some 1
  | 0x01 | 0x10 | 0x11 | 0x20 | 0x21 | 0x22 | 0x23 => some 2
  | _ => none

/-- The opcode is assigned (30 R75). -/
def Command.opAssigned (c : Command) : Bool := (usedFields c.op).isSome

/-- RSV is 0 (30 R76). -/
def Command.rsvZero (c : Command) : Bool := c.rsv == 0

/-- Every operand field the opcode leaves unused is 0 (30 R76). -/
def Command.unusedZero (c : Command) : Bool :=
  match usedFields c.op with
  | some 0 => c.fa == 0 && c.fb == 0
  | some 1 => c.fb == 0
  | _ => true

/-- A legal encoding (30 R76). -/
def Command.wf (c : Command) : Bool := c.opAssigned && c.rsvZero && c.unusedZero

/-- The numbers of operand fields a mnemonic may be written with (30 R79: the block length of ENC, DEC, ENCT and DECT
may be left out). -/
def Mnemonic.arities : Mnemonic → List Nat
  | .nop | .mixcol | .invmixcol | .srst => [0]
  | .sbox | .invsbox | .rcon => [1]
  | .gfmul | .expand | .derive => [2]
  | .enc | .dec | .enct | .dect => [1, 2]

/-- The line has a number of operands its mnemonic is written with (30 R79). -/
def AsmLine.arityOk (l : AsmLine) : Bool := l.mnemonic.arities.contains l.operands.length

/-- "Each field is an unsigned integer 0..255 ... An assembler refuses any other value" (30 R79). -/
def AsmLine.valuesOk (l : AsmLine) : Bool := l.operands.all (· ≤ 255)

/-- A line an assembler takes (30 R79). -/
def AsmLine.wf (l : AsmLine) : Bool := l.arityOk && l.valuesOk

end Sys2Proof
end

