-- ==== Sys2Proof/Decode.lean ====
section
/-! DEFINITION. Decoding a command word, total, rejecting by name, and the encoder (spec 30_encoding R71 to R78); the
assembler (R79). -/
namespace Sys2Proof

/-- Why a command word is no legal command (30 R75, R76). -/
inductive DecodeError where
  /-- OP is not assigned: the command completes with E_ILLOP (30 R75). -/
  | illegalOp
  /-- RSV or an operand field the opcode leaves unused is not 0: it completes with E_RSVD (30 R76). -/
  | reserved
deriving DecidableEq, Repr

/-- OP, bits 7:0 (30 R73). -/
def opField (w : Word) : Byte := w.extractLsb' 0 8

/-- FA, bits 15:8 (30 R73). -/
def faField (w : Word) : Byte := w.extractLsb' 8 8

/-- FB, bits 23:16 (30 R73). -/
def fbField (w : Word) : Byte := w.extractLsb' 16 8

/-- RSV, bits 31:24 (30 R73). -/
def rsvField (w : Word) : Byte := w.extractLsb' 24 8

/-- The four fields of a command word (30 R71, R73). -/
def fieldsOf (w : Word) : Command := ⟨opField w, faField w, fbField w, rsvField w⟩

/-- `enc(OP, FA, FB)`, with RSV = 0 (30 R73). -/
def encFields (op fa fb : Byte) : Word :=
  op.setWidth 32 ||| (fa.setWidth 32 <<< 8) ||| (fb.setWidth 32 <<< 16)

/-- A decoded command when its unused fields are 0, else the rejection of 30 R76. -/
def whenZero (ok : Bool) (i : Instr) : Except DecodeError Instr :=
  if ok then .ok i else .error .reserved

/-- The command of given fields (30 R74 to R77). E_ILLOP comes before E_RSVD, as in 60 R162. -/
def decodeFields (c : Command) : Except DecodeError Instr :=
  match c.op.toNat with
  | 0x00 => whenZero (c.rsv == 0 && c.fa == 0 && c.fb == 0) .nop
  | 0x01 => whenZero (c.rsv == 0) (.gfmul c.fa c.fb)
  | 0x02 => whenZero (c.rsv == 0 && c.fb == 0) (.sbox c.fa)
  | 0x03 => whenZero (c.rsv == 0 && c.fb == 0) (.invsbox c.fa)
  | 0x04 => whenZero (c.rsv == 0 && c.fb == 0) (.rcon c.fa)
  | 0x05 => whenZero (c.rsv == 0 && c.fa == 0 && c.fb == 0) .mixcol
  | 0x06 => whenZero (c.rsv == 0 && c.fa == 0 && c.fb == 0) .invmixcol
  | 0x10 => whenZero (c.rsv == 0) (.expand c.fa c.fb)
  | 0x11 => whenZero (c.rsv == 0) (.derive c.fa c.fb)
  | 0x20 => whenZero (c.rsv == 0) (.enc c.fa c.fb)
  | 0x21 => whenZero (c.rsv == 0) (.dec c.fa c.fb)
  | 0x22 => whenZero (c.rsv == 0) (.enct c.fa c.fb)
  | 0x23 => whenZero (c.rsv == 0) (.dect c.fa c.fb)
  | 0x3F => whenZero (c.rsv == 0 && c.fa == 0 && c.fb == 0) .srst
  | _ => .error .illegalOp

/-- Decoding a command word (30 R73 to R77). -/
def decode (w : Word) : Except DecodeError Instr := decodeFields (fieldsOf w)

/-- The OP value of a command (30 R74). -/
def Instr.opcode : Instr → Byte
  | .nop => 0x00
  | .gfmul _ _ => 0x01
  | .sbox _ => 0x02
  | .invsbox _ => 0x03
  | .rcon _ => 0x04
  | .mixcol => 0x05
  | .invmixcol => 0x06
  | .expand _ _ => 0x10
  | .derive _ _ => 0x11
  | .enc _ _ => 0x20
  | .dec _ _ => 0x21
  | .enct _ _ => 0x22
  | .dect _ _ => 0x23
  | .srst => 0x3F

/-- The FA field of a command, 0 where it is unused (30 R74). -/
def Instr.fa : Instr → Byte
  | .gfmul a _ => a
  | .sbox x | .invsbox x | .rcon x => x
  | .expand k _ | .derive k _ | .enc k _ | .dec k _ | .enct k _ | .dect k _ => k
  | .nop | .mixcol | .invmixcol | .srst => 0

/-- The FB field of a command, 0 where it is unused (30 R74). -/
def Instr.fb : Instr → Byte
  | .gfmul _ b => b
  | .expand _ r => r
  | .derive _ o => o
  | .enc _ b | .dec _ b | .enct _ b | .dect _ b => b
  | .nop | .sbox _ | .invsbox _ | .rcon _ | .mixcol | .invmixcol | .srst => 0

/-- The command word of a command (30 R73, R74). -/
def encode (i : Instr) : Word := encFields i.opcode i.fa i.fb

/-- A row of the opcode table: the legal words of a mnemonic are those with `w &&& mask = pattern` (30 R76). -/
structure OpcodeRow where
  mnemonic : Mnemonic
  pattern : Word
  mask : Word
deriving DecidableEq, Repr

/-- The opcode table, row by row (30 R74; spec/opcode_table.json, `match` and `mask`). -/
def opcodeTable : List OpcodeRow :=
  [⟨.nop, 0x00000000, 0xFFFFFFFF⟩, ⟨.gfmul, 0x00000001, 0xFF0000FF⟩,
   ⟨.sbox, 0x00000002, 0xFFFF00FF⟩, ⟨.invsbox, 0x00000003, 0xFFFF00FF⟩,
   ⟨.rcon, 0x00000004, 0xFFFF00FF⟩, ⟨.mixcol, 0x00000005, 0xFFFFFFFF⟩,
   ⟨.invmixcol, 0x00000006, 0xFFFFFFFF⟩, ⟨.expand, 0x00000010, 0xFF0000FF⟩,
   ⟨.derive, 0x00000011, 0xFF0000FF⟩, ⟨.enc, 0x00000020, 0xFF0000FF⟩,
   ⟨.dec, 0x00000021, 0xFF0000FF⟩, ⟨.enct, 0x00000022, 0xFF0000FF⟩,
   ⟨.dect, 0x00000023, 0xFF0000FF⟩, ⟨.srst, 0x0000003F, 0xFFFFFFFF⟩]

/-- A word is a legal encoding of a row (30 R76). -/
def OpcodeRow.accepts (r : OpcodeRow) (w : Word) : Bool := w &&& r.mask == r.pattern

/-- The mnemonic of a command (30 R74). -/
def Instr.mnemonic : Instr → Mnemonic
  | .nop => .nop
  | .gfmul _ _ => .gfmul
  | .sbox _ => .sbox
  | .invsbox _ => .invsbox
  | .rcon _ => .rcon
  | .mixcol => .mixcol
  | .invmixcol => .invmixcol
  | .expand _ _ => .expand
  | .derive _ _ => .derive
  | .enc _ _ => .enc
  | .dec _ _ => .dec
  | .enct _ _ => .enct
  | .dect _ _ => .dect
  | .srst => .srst

/-- The block length an assembler writes when the line gives none (30 R79). -/
def defaultBlen : Nat := 16

/-- The command of a mnemonic with given operand fields, where the number of fields is one of its forms (30 R79). -/
def instrOf (m : Mnemonic) (operands : List Nat) : Option Instr :=
  match m, operands with
  | .nop, [] => some .nop
  | .gfmul, [a, b] => some (.gfmul (BitVec.ofNat 8 a) (BitVec.ofNat 8 b))
  | .sbox, [x] => some (.sbox (BitVec.ofNat 8 x))
  | .invsbox, [y] => some (.invsbox (BitVec.ofNat 8 y))
  | .rcon, [i] => some (.rcon (BitVec.ofNat 8 i))
  | .mixcol, [] => some .mixcol
  | .invmixcol, [] => some .invmixcol
  | .expand, [k, r] => some (.expand (BitVec.ofNat 8 k) (BitVec.ofNat 8 r))
  | .derive, [n, o] => some (.derive (BitVec.ofNat 8 n) (BitVec.ofNat 8 o))
  | .enc, [k] => some (.enc (BitVec.ofNat 8 k) (BitVec.ofNat 8 defaultBlen))
  | .enc, [k, b] => some (.enc (BitVec.ofNat 8 k) (BitVec.ofNat 8 b))
  | .dec, [k] => some (.dec (BitVec.ofNat 8 k) (BitVec.ofNat 8 defaultBlen))
  | .dec, [k, b] => some (.dec (BitVec.ofNat 8 k) (BitVec.ofNat 8 b))
  | .enct, [k] => some (.enct (BitVec.ofNat 8 k) (BitVec.ofNat 8 defaultBlen))
  | .enct, [k, b] => some (.enct (BitVec.ofNat 8 k) (BitVec.ofNat 8 b))
  | .dect, [k] => some (.dect (BitVec.ofNat 8 k) (BitVec.ofNat 8 defaultBlen))
  | .dect, [k, b] => some (.dect (BitVec.ofNat 8 k) (BitVec.ofNat 8 b))
  | .srst, [] => some .srst
  | _, _ => none

/-- Assembling a line: the word of its command, or a refusal (30 R79). -/
def assemble (l : AsmLine) : Option Word :=
  if l.wf then (instrOf l.mnemonic l.operands).map encode else none

/-- The word whose bits are `w`, of which the first `nbits` are given and the others are 0. A command is one 32-bit word
(30 R70), so the table's numbering of the bits is the word's own. -/
def tableWord (nbits w : Nat) : Word := BitVec.ofNat 32 (w % 2 ^ nbits)

/-- What this decoder reads from an instruction whose bits are `w`. -/
def decodeTableWord (nbits w : Nat) : Option Instr :=
  match decode (tableWord nbits w) with
  | .ok i => some i
  | .error _ => none

end Sys2Proof
end

