-- ==== Sys2Proof/Machine/State.lean ====
section
/-! DEFINITION. The state of the engine and of what stands outside it (spec 10_state, 00_scope R10), the reasons a step
could stop, and the state after reset (10 R42). -/
namespace Sys2Proof.Machine

/-- The error codes of STATUS.ECODE (60 R160). Codes 9 to 15 are never produced, so the type has no name for them. -/
inductive ErrorCode where
  | none | illop | rsvd | keylen | blklen | seglen | offset | rounds | operand
deriving DecidableEq, Repr

/-- The hidden round sequencer SEQ (10 R39). -/
inductive Seq where
  | start
  | round (r : Nat)
  | done
deriving DecidableEq, Repr

/-- The response code of a bus transaction (20 R50). -/
inductive Resp where
  | okay | slverr
deriving DecidableEq, Repr

/-- What the bus ports answered a transaction (20 R50). A write's `rdata` is given by no rule, so it has none (log 16). -/
inductive Response where
  | read (resp : Resp) (rdata : Word)
  | write (resp : Resp)
deriving DecidableEq, Repr

/-- One line of a host program: a bus transaction (20 R50, 30 R80) or the polling loop WAIT (30 R80). -/
inductive HostOp where
  | write (a : Addr) (v : Word)
  | read (a : Addr)
  | wait
deriving DecidableEq, Repr

/-- Who moves next (00 R10, 70 R185, R193; log 1). -/
inductive Turn where
  /-- the host performs its next transaction -/
  | host
  /-- the engine completes the command in flight, if there is one -/
  | engine
  /-- the hidden sequencer moves one stage on (10 R39; log 4) -/
  | stage
  /-- the platform drives rst_n to this level (70 R185) -/
  | pin (level : Bool)
deriving DecidableEq, Repr

/-- The machine: every register, field and hidden state of the engine (10 R20 to R39), then the model's own view of the
outside. STATUS.BUSY is the validity of PEND (`State.busy`, log 5); reserved bits are not stored: they read 0. -/
structure State where
  /-- CMD: the last accepted command word (10 R22) -/
  cmd : Word
  /-- STATUS.DONE (10 R23) -/
  done : Bool
  /-- STATUS.ERR (10 R23) -/
  err : Bool
  /-- STATUS.OVR (10 R23) -/
  ovr : Bool
  /-- STATUS.TV (10 R23) -/
  tv : Bool
  /-- STATUS.ECODE (10 R23, 60 R160) -/
  ecode : ErrorCode
  /-- STATUS.LASTOP (10 R23) -/
  lastop : Byte
  /-- IRQEN.DONEIE (10 R25) -/
  doneIE : Bool
  /-- IRQEN.ERRIE (10 R25) -/
  errIE : Bool
  /-- INFO.SCHEDLEN (10 R26) -/
  schedLen : Byte
  /-- INFO.KOLEN (10 R26) -/
  koLen : Byte
  /-- INFO.TNUM (10 R26) -/
  tnum : BitVec 4
  /-- INFO.TDIR: true is 1, decrypt (10 R26) -/
  tdir : Bool
  /-- RESULT (10 R27) -/
  result : Word
  /-- XIN (10 R28) -/
  xin : Word
  /-- KEY[0..7] (10 R29) -/
  key : Vector Word 8
  /-- BIN[0..3] (10 R30) -/
  bin : Vector Word 4
  /-- BOUT[0..3] (10 R31) -/
  bout : Vector Word 4
  /-- SEG[0..7] (10 R32) -/
  seg : Vector Word 8
  /-- KOUT[0..7] (10 R33) -/
  kout : Vector Word 8
  /-- SCHED[0..59], the schedule RAM (10 R34) -/
  sched : Vector Word 60
  /-- TRACE[0..14][0..31], the trace buffer (10 R35) -/
  trace : Vector (Vector Word 32) 15
  /-- PEND: the accepted command word while it is valid (10 R39) -/
  pend : Option Word
  /-- SEQ (10 R39) -/
  seq : Seq
  /-- the level of the reset pin rst_n (70 R185) -/
  rstN : Bool
  /-- the response to the last transaction (20 R50); none: there was none since reset (log 9) -/
  rsp : Option Response
  /-- the host's transactions to come, oldest first (log 2) -/
  host : List HostOp
  /-- who moves next, oldest first (log 1) -/
  turns : List Turn
  /-- how many free values have been drawn (log 3) -/
  draws : Nat
deriving DecidableEq, Repr

/-- Why the machine would stop with a fault. The spec has no such reason: a bad command completes with an error code
(60 R161, R167) and a bad transaction is answered SLVERR (60 R164), and the machine goes on. So nothing raises a fault
and the type has no constructor; safe. -/
inductive Fault where
deriving DecidableEq, Repr

/-- Why an instruction would have no meaning. -/
inductive Refusal where
  /-- Raised by an arm of `exec` whose instruction has no meaning yet; safe. No arm raises it: every row has its meaning. -/
  | notModelled (mnemonic : String)
deriving DecidableEq, Repr

/-- The machine right after reset (10 R42): every register 0, PEND invalid, SEQ Start. The last five fields are the model's
own: the pin is released, no transaction was answered, nothing is to come, no value was drawn (log 1, 2, 3, 8, 9; DESIGN CHOICE). -/
def State.reset : State where
  cmd := 0
  done := false
  err := false
  ovr := false
  tv := false
  ecode := .none
  lastop := 0
  doneIE := false
  errIE := false
  schedLen := 0
  koLen := 0
  tnum := 0
  tdir := false
  result := 0
  xin := 0
  key := Vector.replicate 8 0
  bin := Vector.replicate 4 0
  bout := Vector.replicate 4 0
  seg := Vector.replicate 8 0
  kout := Vector.replicate 8 0
  sched := Vector.replicate 60 0
  trace := Vector.replicate 15 (Vector.replicate 32 0)
  pend := none
  seq := .start
  rstN := true
  rsp := none
  host := []
  turns := []
  draws := 0

end Sys2Proof.Machine
end

