-- ==== Sys2Proof/Machine/Flags.lean ====
section
/-! DEFINITION. The flags: STATUS, IRQEN and INFO as the host reads them, the interrupt line, and how completion, acceptance,
refusal and a W1C write change them (spec 10_state R22 to R26, 60_exceptions R160 to R166). -/
namespace Sys2Proof.Machine

/-- STATUS.BUSY: a command is in flight (10 R23, R39; log 5). -/
def State.busy (s : State) : Bool := s.pend.isSome

/-- The number of an error code (60 R160). -/
def errorNumber : ErrorCode → BitVec 4
  | .none => 0
  | .illop => 1
  | .rsvd => 2
  | .keylen => 3
  | .blklen => 4
  | .seglen => 5
  | .offset => 6
  | .rounds => 7
  | .operand => 8

/-- The error a rejected command word completes with (30 R75, R76). -/
def decodeErrorCode : DecodeError → ErrorCode
  | .illegalOp => .illop
  | .reserved => .rsvd

/-- A bit as a word, at position `k`. -/
def bitAt (b : Bool) (k : Nat) : Word := (if b then (1 : Word) else 0) <<< k

/-- STATUS as read (10 R23). -/
def statusWord (s : State) : Word :=
  bitAt s.busy 0 ||| bitAt s.done 1 ||| bitAt s.err 2 ||| bitAt s.ovr 3 ||| bitAt s.tv 4 |||
    ((errorNumber s.ecode).setWidth 32 <<< 8) ||| (s.lastop.setWidth 32 <<< 24)

/-- IRQEN as read (10 R25). -/
def irqenWord (s : State) : Word := bitAt s.doneIE 0 ||| bitAt s.errIE 1

/-- INFO as read (10 R26). -/
def infoWord (s : State) : Word :=
  s.schedLen.setWidth 32 ||| (s.koLen.setWidth 32 <<< 8) ||| (s.tnum.setWidth 32 <<< 16) ||| bitAt s.tdir 20

/-- The interrupt line (60 R165); 0 while the reset pin is asserted (70 R185). -/
def State.irq (s : State) : Bool :=
  s.rstN && ((s.done && s.doneIE) || ((s.err || s.ovr) && s.errIE))

/-- The completion update (60 R161): BUSY 0, DONE 1, LASTOP, ECODE, ERR, PEND invalid, SEQ Start. -/
def State.finish (s : State) (op : Byte) (e : ErrorCode) : State :=
  { s with pend := Option.none, seq := .start, done := true, lastop := op, ecode := e, err := decide (e ≠ .none) }

/-- A W1C write to STATUS (10 R24). -/
def State.clearStatus (s : State) (v : Word) : State :=
  { s with
    done := s.done && !v.getLsbD 1
    err := s.err && !v.getLsbD 2
    ovr := s.ovr && !v.getLsbD 3 }

/-- A write to IRQEN: bits 31:2 are ignored (10 R25, 20 R62). -/
def State.setIrqen (s : State) (v : Word) : State :=
  { s with doneIE := v.getLsbD 0, errIE := v.getLsbD 1 }

/-- The lasting effect of a write refused because BUSY = 1: OVR (10 R22(c), 20 R62). -/
def State.setOverrun (s : State) : State := { s with ovr := true }

end Sys2Proof.Machine
end

