-- ==== Sys2Proof/Machine/Packing.lean ====
section
/-! DEFINITION. Byte order and packing: words of bytes, blocks of columns (spec 20_memory R56 to R60, 00_scope R8). -/
namespace Sys2Proof.Machine

/-- `word(a0, a1, a2, a3)`: the first byte in the most significant lane (20 R56). -/
def packWord (c : Column) : Word :=
  (c.a0.setWidth 32 <<< 24) ||| (c.a1.setWidth 32 <<< 16) ||| (c.a2.setWidth 32 <<< 8) ||| c.a3.setWidth 32

/-- `bytes(v) = (v[31:24], v[23:16], v[15:8], v[7:0])` (20 R56). -/
def bytesOf (v : Word) : Column :=
  ⟨v.extractLsb' 24 8, v.extractLsb' 16 8, v.extractLsb' 8 8, v.extractLsb' 0 8⟩

/-- Bytewise XOR of two columns (00 R7). -/
def xorColumn (x y : Column) : Column := ⟨x.a0 ^^^ y.a0, x.a1 ^^^ y.a1, x.a2 ^^^ y.a2, x.a3 ^^^ y.a3⟩

/-- Byte `r` of a column: row `r` (00 R8). -/
def rowOf (c : Column) (r : Fin 4) : Byte :=
  match r with
  | 0 => c.a0
  | 1 => c.a1
  | 2 => c.a2
  | 3 => c.a3

/-- Column `c` of a block (00 R8). -/
def colOf (b : Block) (c : Fin 4) : Column :=
  match c with
  | 0 => b.c0
  | 1 => b.c1
  | 2 => b.c2
  | 3 => b.c3

/-- The state matrix element `s[r][c]` (00 R8). -/
def blockAt (b : Block) (r c : Fin 4) : Byte := rowOf (colOf b c) r

/-- The block whose element in row `r` of column `c` is `f r c`. -/
def blockOf (f : Fin 4 → Fin 4 → Byte) : Block :=
  ⟨⟨f 0 0, f 1 0, f 2 0, f 3 0⟩, ⟨f 0 1, f 1 1, f 2 1, f 3 1⟩, ⟨f 0 2, f 1 2, f 2 2, f 3 2⟩, ⟨f 0 3, f 1 3, f 2 3, f 3 3⟩⟩

/-- A function of bytes applied to each of the 16 lanes (42 R125). -/
def mapLanes (f : Byte → Byte) (b : Block) : Block := blockOf fun r c => f (blockAt b r c)

/-- A function of columns applied to each column (42 R125). -/
def mapColumns (f : Column → Column) (b : Block) : Block := ⟨f b.c0, f b.c1, f b.c2, f b.c3⟩

/-- Bytewise XOR of two blocks (00 R7). -/
def xorBlock (x y : Block) : Block :=
  ⟨xorColumn x.c0 y.c0, xorColumn x.c1 y.c1, xorColumn x.c2 y.c2, xorColumn x.c3 y.c3⟩

/-- The word of a block in register `c` of its bank (20 R57). -/
def blockWord (b : Block) (c : Fin 4) : Word := packWord (colOf b c)

/-- A block in a bank of four registers (20 R57). -/
def blockToBank (b : Block) : Vector Word 4 := Vector.ofFn (blockWord b)

/-- The block a bank of four registers holds (20 R57). -/
def bankToBlock (x : Vector Word 4) : Block := ⟨bytesOf x[0], bytesOf x[1], bytesOf x[2], bytesOf x[3]⟩

end Sys2Proof.Machine
end

