-- ==== Sys2Proof/Machine/Operands.lean ====
section
/-! DEFINITION. The operands of the commands: the key sizes, the checks of the operand fields, and the input registers as
columns, keys, blocks and segments (spec 00_scope R6, 41_key_schedule R116, R117, 42_block_cipher R135). -/
namespace Sys2Proof.Machine

/-- The three key sizes, "an explicit enumerated mapping" (00 R6). -/
inductive KeySize where
  | k128 | k192 | k256
deriving DecidableEq, Repr

/-- `sizeOf` a key length in bytes (00 R6). -/
def sizeOfKey (l : Byte) : Option KeySize :=
  match l.toNat with
  | 16 => some .k128
  | 24 => some .k192
  | 32 => some .k256
  | _ => none

/-- Nk, the key length in words (00 R6). -/
def KeySize.nk : KeySize → Nat
  | .k128 => 4
  | .k192 => 6
  | .k256 => 8

/-- Nr, the number of rounds (00 R6). -/
def KeySize.nr : KeySize → Nat
  | .k128 => 10
  | .k192 => 12
  | .k256 => 14

/-- The key length in bytes (00 R6). -/
def KeySize.bytes : KeySize → Byte
  | .k128 => 16
  | .k192 => 24
  | .k256 => 32

/-- The key size of a segment length in words: the length must EQUAL 4, 6 or 8 (41 R117, 90 C2). -/
def sizeOfSegment (n : Byte) : Option KeySize :=
  match n.toNat with
  | 4 => some .k128
  | 6 => some .k192
  | 8 => some .k256
  | _ => none

/-- The block length the cipher commands take (42 R135). -/
def blockLength : Nat := 16

/-- The checks of ENC, DEC, ENCT and DECT: block length, then key length (42 R135, 60 R162). -/
def checkCipher (klen blen : Byte) : Except ErrorCode KeySize :=
  if blen.toNat ≠ blockLength then .error .blklen
  else
    match sizeOfKey klen with
    | some k => .ok k
    | none => .error .keylen

/-- The checks of EXPAND: key length, then rounds (41 R116, 60 R162). -/
def checkExpand (klen rounds : Byte) : Except ErrorCode KeySize :=
  match sizeOfKey klen with
  | none => .error .keylen
  | some k => if rounds.toNat < 1 ∨ Config.maxRounds < rounds.toNat then .error .rounds else .ok k

/-- The checks of DERIVE: segment length, then offset (41 R117, 60 R162). -/
def checkDerive (nk off : Byte) : Except ErrorCode KeySize :=
  match sizeOfSegment nk with
  | none => .error .seglen
  | some k => if Config.schedWords < off.toNat + k.nk then .error .offset else .ok k

/-- The check of RCON (40 R103). -/
def checkRcon (i : Byte) : Except ErrorCode Nat :=
  if i.toNat = 0 then .error .operand else .ok i.toNat

/-- The cipher key of a size: KEY[0..Nk-1]; the other words are ignored (10 R29). -/
def keyWords (s : State) (k : KeySize) : List Word := s.key.toList.take k.nk

/-- The segment of a size: SEG[0..Nk-1] (10 R32). -/
def segWords (s : State) (k : KeySize) : List Word := s.seg.toList.take k.nk

/-- The input block (10 R30). -/
def inputBlock (s : State) : Block := bankToBlock s.bin

/-- The input column (10 R28). -/
def inputColumn (s : State) : Column := bytesOf s.xin

end Sys2Proof.Machine
end

