-- ==== Sys2Proof/Machine/RegisterMap.lean ====
section
/-! DEFINITION. The register window (spec 20_memory R53): which register stands at an offset, and its access and class. -/
namespace Sys2Proof.Machine

/-- The registers of the window (20 R53). -/
inductive Reg where
  | id | cmd | status | irqen | result | xin | info
  | key (j : Fin 8)
  | bin (c : Fin 4)
  | bout (c : Fin 4)
  | seg (j : Fin 8)
  | kout (j : Fin 8)
  | sched (i : Fin 60)
  | trace (e : Fin 15) (w : Fin 32)
deriving DecidableEq, Repr

/-- The classes of 20 R53. -/
inductive RegClass where
  | input | output | control
deriving DecidableEq, Repr

/-- `addr[1:0] ≠ 0` (20 R52). -/
def misaligned (a : Addr) : Bool := a.toNat % 4 ≠ 0

/-- The register at a byte offset; `none`: the offset is misaligned or reserved (20 R52 to R54). -/
def regAt (a : Addr) : Option Reg :=
  let n := a.toNat
  if n % 4 ≠ 0 then none
  else if n = 0x000 then some .id
  else if n = 0x004 then some .cmd
  else if n = 0x008 then some .status
  else if n = 0x00C then some .irqen
  else if n = 0x010 then some .result
  else if n = 0x014 then some .xin
  else if n = 0x018 then some .info
  else if n < 0x020 then none
  else if n < 0x040 then some (.key (Fin.ofNat 8 ((n - 0x020) / 4)))
  else if n < 0x050 then some (.bin (Fin.ofNat 4 ((n - 0x040) / 4)))
  else if n < 0x060 then some (.bout (Fin.ofNat 4 ((n - 0x050) / 4)))
  else if n < 0x080 then some (.seg (Fin.ofNat 8 ((n - 0x060) / 4)))
  else if n < 0x0A0 then some (.kout (Fin.ofNat 8 ((n - 0x080) / 4)))
  else if n < 0x100 then none
  else if n < 0x1F0 then some (.sched (Fin.ofNat 60 ((n - 0x100) / 4)))
  else if n < 0x800 then none
  else if n < 0xF80 then some (.trace (Fin.ofNat 15 ((n - 0x800) / 128)) (Fin.ofNat 32 ((n - 0x800) % 128 / 4)))
  else none

/-- The byte offset of a register, as a number (20 R53). -/
def offsetNat : Reg → Nat
  | .id => 0x000
  | .cmd => 0x004
  | .status => 0x008
  | .irqen => 0x00C
  | .result => 0x010
  | .xin => 0x014
  | .info => 0x018
  | .key j => 0x020 + 4 * j.val
  | .bin c => 0x040 + 4 * c.val
  | .bout c => 0x050 + 4 * c.val
  | .seg j => 0x060 + 4 * j.val
  | .kout j => 0x080 + 4 * j.val
  | .sched i => 0x100 + 4 * i.val
  | .trace e w => 0x800 + 128 * e.val + 4 * w.val

/-- The byte offset of a register (20 R53). -/
def offsetOf (r : Reg) : Addr := BitVec.ofNat 12 (offsetNat r)

/-- The class of a register (20 R53). -/
def regClass : Reg → RegClass
  | .xin | .key _ | .bin _ | .seg _ => .input
  | .result | .bout _ | .kout _ | .sched _ | .trace _ _ => .output
  | .id | .cmd | .status | .irqen | .info => .control

/-- The read-only registers: ID, INFO and the output registers (20 R55). -/
def readOnly : Reg → Bool
  | .id | .info | .result | .bout _ | .kout _ | .sched _ | .trace _ _ => true
  | .cmd | .status | .irqen | .xin | .key _ | .bin _ | .seg _ => false

end Sys2Proof.Machine
end

