-- ==== Sys2Proof/Machine/Sequencer.lean ====
section
/-! DEFINITION. The hidden round sequencer SEQ (spec 10_state R39, 42_block_cipher R130, R131; log 4). -/
namespace Sys2Proof.Machine

/-- Where SEQ stands right after a command is accepted: it leaves Start for the first round of the chain when a block
command whose operands pass the checks is accepted (10 R39; the checks come "before round 0", 42 R135). -/
def firstStage : Instr → Seq
  | .enc k b | .enct k b =>
    match checkCipher k b with
    | .ok _ => .round 0
    | .error _ => .start
  | .dec k b | .dect k b =>
    match checkCipher k b with
    | .ok ks => .round ks.nr
    | .error _ => .start
  | .nop | .gfmul _ _ | .sbox _ | .invsbox _ | .rcon _ | .mixcol | .invmixcol | .expand _ _ | .derive _ _ | .srst => .start

/-- SEQ after acceptance of a word (10 R39). -/
def firstStageOf (w : Word) : Seq :=
  match decode w with
  | .ok i => firstStage i
  | .error _ => .start

/-- The next stage of a chain that climbs to round `nr` (42 R130). -/
def stageUp (nr : Nat) : Seq → Seq
  | .start => .start
  | .round r => if r < nr then .round (r + 1) else .done
  | .done => .done

/-- The next stage of a chain that falls to round 0 (42 R131). -/
def stageDown : Seq → Seq
  | .start => .start
  | .round 0 => .done
  | .round (r + 1) => .round r
  | .done => .done

/-- The next stage of the chain of a command (42 R130, R131). -/
def nextStage (i : Instr) (q : Seq) : Seq :=
  match i with
  | .enc k b | .enct k b =>
    match checkCipher k b with
    | .ok ks => stageUp ks.nr q
    | .error _ => q
  | .dec k b | .dect k b =>
    match checkCipher k b with
    | .ok _ => stageDown q
    | .error _ => q
  | .nop | .gfmul _ _ | .sbox _ | .invsbox _ | .rcon _ | .mixcol | .invmixcol | .expand _ _ | .derive _ _ | .srst => q

/-- The stage after `q` for the command in flight, if there is one. -/
def nextStageOf (pend : Option Word) (q : Seq) : Seq :=
  match pend with
  | none => q
  | some w =>
    match decode w with
    | .ok i => nextStage i q
    | .error _ => q

/-- The sequencer moves one stage on; nothing else changes (10 R39). While rst_n is low no step is enabled (70 R185). -/
def State.advanceSeq (s : State) : State :=
  { s with seq := if s.rstN then nextStageOf s.pend s.seq else s.seq }

end Sys2Proof.Machine
end

