-- ==== Sys2Proof/Machine/Galois.lean ====
section
/-! DEFINITION. The GF unit's arithmetic and constant tables (spec 40_galois_field R90 to R98). -/
namespace Sys2Proof.Machine

/-- Doubling with reduction modulo 0x11B (40 R91). -/
def xtime (a : Byte) : Byte := (a <<< 1) ^^^ (if a.getLsbD 7 then 0x1B else 0x00)

/-- `n` rounds of the peasant multiplication with accumulator `p` (40 R92). -/
def gfmulLoop : Nat → Byte → Byte → Byte → Byte
  | 0, _, _, p => p
  | n + 1, a, b, p => gfmulLoop n (xtime a) (b >>> 1) (if b.getLsbD 0 then p ^^^ a else p)

/-- The product `a • b` in GF(2^8) (40 R92). -/
def gfmul (a b : Byte) : Byte := gfmulLoop 8 a b 0

/-- Byte `x` of a table written as 16 rows of 16 bytes, the row by the high nibble of `x` and the column by the low one. -/
def tableByte (rows : List Nat) (x : Byte) : Byte :=
  BitVec.ofNat 8 (rows.getD (x.toNat / 16) 0 >>> (8 * (15 - x.toNat % 16)))

/-- The S-box table, row by row (40 R94; from general knowledge there, log 7). -/
def sboxRows : List Nat :=
  [0x637c777bf26b6fc53001672bfed7ab76, 0xca82c97dfa5947f0add4a2af9ca472c0,
   0xb7fd9326363ff7cc34a5e5f171d83115, 0x04c723c31896059a071280e2eb27b275,
   0x09832c1a1b6e5aa0523bd6b329e32f84, 0x53d100ed20fcb15b6acbbe394a4c58cf,
   0xd0efaafb434d338545f9027f503c9fa8, 0x51a3408f929d38f5bcb6da2110fff3d2,
   0xcd0c13ec5f974417c4a77e3d645d1973, 0x60814fdc222a908846eeb814de5e0bdb,
   0xe0323a0a4906245cc2d3ac629195e479, 0xe7c8376d8dd54ea96c56f4ea657aae08,
   0xba78252e1ca6b4c6e8dd741f4bbd8b8a, 0x703eb5664803f60e613557b986c11d9e,
   0xe1f8981169d98e949b1e87e9ce5528df, 0x8ca1890dbfe6426841992d0fb054bb16]

/-- The inverse S-box table, row by row (40 R95; log 7). -/
def invSboxRows : List Nat :=
  [0x52096ad53036a538bf40a39e81f3d7fb, 0x7ce339829b2fff87348e4344c4dee9cb,
   0x547b9432a6c2233dee4c950b42fac34e, 0x082ea16628d924b2765ba2496d8bd125,
   0x72f8f66486689816d4a45ccc5d65b692, 0x6c704850fdedb9da5e154657a78d9d84,
   0x90d8ab008cbcd30af7e45805b8b34506, 0xd02c1e8fca3f0f02c1afbd0301138a6b,
   0x3a9111414f67dcea97f2cfcef0b4e673, 0x96ac7422e7ad3585e2f937e81c75df6e,
   0x47f11a711d29c5896fb7620eaa18be1b, 0xfc563e4bc6d279209adbc0fe78cd5af4,
   0x1fdda8338807c731b11210592780ec5f, 0x60517fa919b54a0d2de57a9f93c99cef,
   0xa0e03b4dae2af5b0c8ebbb3c83539961, 0x172b047eba77d626e169146355210c7d]

/-- The S-box `S` (40 R94). -/
def sbox (x : Byte) : Byte := tableByte sboxRows x

/-- The inverse S-box `Si` (40 R95). -/
def invSbox (y : Byte) : Byte := tableByte invSboxRows y

/-- `x^k` in GF(2^8): `k` doublings of 1 (40 R96). -/
def rcPower : Nat → Byte
  | 0 => 0x01
  | k + 1 => xtime (rcPower k)

/-- The round constant `RC(i)`, i ≥ 1 (40 R96). RC(0) is not defined there and no caller asks for it: RCON 0 is an error
(40 R103) and the schedule uses i div Nk ≥ 1 (41 R112). -/
def rc (i : Nat) : Byte := rcPower (i - 1)

/-- `roundConstant(i)`, the word (RC(i), 0, 0, 0) (40 R96). -/
def rconColumn (i : Nat) : Column := ⟨rc i, 0, 0, 0⟩

/-- A row of a matrix times a column (40 R97). -/
def dotRow (m0 m1 m2 m3 : Byte) (c : Column) : Byte :=
  gfmul m0 c.a0 ^^^ gfmul m1 c.a1 ^^^ gfmul m2 c.a2 ^^^ gfmul m3 c.a3

/-- `mixcol`: a column times the matrix M, given by rows (40 R97). -/
def mixcol (c : Column) : Column :=
  ⟨dotRow 0x02 0x03 0x01 0x01 c,
   dotRow 0x01 0x02 0x03 0x01 c,
   dotRow 0x01 0x01 0x02 0x03 c,
   dotRow 0x03 0x01 0x01 0x02 c⟩

/-- `invmixcol`: a column times the inverse matrix, given by rows (40 R98). -/
def invmixcol (c : Column) : Column :=
  ⟨dotRow 0x0e 0x0b 0x0d 0x09 c,
   dotRow 0x09 0x0e 0x0b 0x0d c,
   dotRow 0x0d 0x09 0x0e 0x0b c,
   dotRow 0x0b 0x0d 0x09 0x0e c⟩

end Sys2Proof.Machine
end

