-- ==== Sys2Proof/Machine/Schedule.lean ====
section
/-! DEFINITION. The key schedule: the forward expander and the backward inverter (spec 41_key_schedule R110 to R114). A
schedule is the list of its words, w[0] first. -/
namespace Sys2Proof.Machine

/-- `SubWord` (41 R111). -/
def subWord (c : Column) : Column := ⟨sbox c.a0, sbox c.a1, sbox c.a2, sbox c.a3⟩

/-- `RotWord(a0, a1, a2, a3) = (a1, a2, a3, a0)` (41 R111; log 7). -/
def rotWord (c : Column) : Column := ⟨c.a1, c.a2, c.a3, c.a0⟩

/-- The schedule function `f(p, i, Nk)` of the previous word (41 R112, 90 C1; log 7). -/
def schedF (p : Word) (i nk : Nat) : Word :=
  if i % nk = 0 then packWord (xorColumn (subWord (rotWord (bytesOf p))) (rconColumn (i / nk)))
  else if 6 < nk ∧ i % nk = 4 then packWord (subWord (bytesOf p))
  else p

/-- Word `i` of a schedule; 0 beyond its end. -/
def wordAt (w : List Word) (i : Nat) : Word := w.getD i 0

/-- `w[i] = w[i-Nk] XOR f(w[i-1], i)` for the next index `i` of a schedule under construction (41 R113). -/
def nextWord (nk : Nat) (w : List Word) : Word :=
  wordAt w (w.length - nk) ^^^ schedF (wordAt w (w.length - 1)) w.length nk

/-- Append `count` words, ascending (41 R113). -/
def expandLoop (nk : Nat) : Nat → List Word → List Word
  | 0, w => w
  | count + 1, w => expandLoop nk count (w ++ [nextWord nk w])

/-- `expand(K, R)`: the `4 * (R + 1)` words of the schedule (41 R113). -/
def expand (key : List Word) (rounds : Nat) : List Word :=
  expandLoop key.length (4 * (rounds + 1) - key.length) key

/-- The descending walk: with `k = i - Nk` words still to derive, `w[i-Nk] <- w[i] XOR f(w[i-1], i)` for i = Nk + k - 1 and so
on down to Nk (41 R114). -/
def deriveLoop (nk : Nat) : Nat → List Word → List Word
  | 0, w => w
  | k + 1, w => deriveLoop nk k (w.set k (wordAt w (nk + k) ^^^ schedF (wordAt w (nk + k - 1)) (nk + k) nk))

/-- `derive(seg, off)`: an array of `off + Nk` words whose top Nk are the segment, walked backward (41 R114). -/
def derive (seg : List Word) (off : Nat) : List Word :=
  deriveLoop seg.length off (List.replicate off 0 ++ seg)

/-- The round key of round `r`: words 4r to 4r + 3 (41 R110). -/
def roundKey (w : List Word) (r : Nat) : Block :=
  ⟨bytesOf (wordAt w (4 * r)), bytesOf (wordAt w (4 * r + 1)), bytesOf (wordAt w (4 * r + 2)), bytesOf (wordAt w (4 * r + 3))⟩

end Sys2Proof.Machine
end

