-- ==== Sys2Proof/Machine/Rounds.lean ====
section
/-! DEFINITION. The round transforms, the cipher, the inverse cipher and the snapshots they record (spec 42_block_cipher
R125 to R133). -/
namespace Sys2Proof.Machine

/-- SubBytes (42 R125). -/
def subBytes (s : Block) : Block := mapLanes sbox s

/-- InvSubBytes (42 R125). -/
def invSubBytes (s : Block) : Block := mapLanes invSbox s

/-- ShiftRows: row `r` rotated left by `r`; `c + r` is modulo 4 (42 R126). -/
def shiftRows (s : Block) : Block := blockOf fun r c => blockAt s r (c + r)

/-- InvShiftRows: row `r` rotated right by `r`; `c - r` is modulo 4 (42 R127). -/
def invShiftRows (s : Block) : Block := blockOf fun r c => blockAt s r (c - r)

/-- MixColumns (42 R128). -/
def mixColumns (s : Block) : Block := mapColumns mixcol s

/-- InvMixColumns (42 R128). -/
def invMixColumns (s : Block) : Block := mapColumns invmixcol s

/-- AddRoundKey with the key of round `r` (42 R129). -/
def addRoundKey (w : List Word) (r : Nat) (s : Block) : Block := xorBlock s (roundKey w r)

/-- The tag of a snapshot (10 R36). -/
inductive RoundKind where
  | initial | interior | final
deriving DecidableEq, Repr

/-- The direction of a trace: INFO.TDIR and the descriptor's DIR (10 R26, R36). -/
inductive Dir where
  | encrypt | decrypt
deriving DecidableEq, Repr

/-- A round's snapshot: the source's tagged record, each kind with only the fields it produces (10 R36, R37). -/
structure Snapshot where
  round : Nat
  kind : RoundKind
  input : Option Block
  rkey : Block
  keyed : Block
  sub : Option Block
  shift : Option Block
  mix : Option Block
deriving DecidableEq, Repr

/-- What a run of the cipher or of its inverse gives: the block, the snapshots in processing order and the schedule
(42 R130, R131). -/
structure CipherRun where
  result : Block
  trace : List Snapshot
  sched : List Word
deriving DecidableEq, Repr

/-- E[0]: round 0 of the cipher, key-XOR only (42 R130 step 3). -/
def encInitial (w : List Word) (p : Block) : Snapshot where
  round := 0
  kind := .initial
  input := some p
  rkey := roundKey w 0
  keyed := addRoundKey w 0 p
  sub := none
  shift := none
  mix := none

/-- E[r]: an interior round of the cipher on the state `x` (42 R130 step 4). -/
def encInterior (w : List Word) (r : Nat) (x : Block) : Snapshot where
  round := r
  kind := .interior
  input := none
  rkey := roundKey w r
  keyed := addRoundKey w r (mixColumns (shiftRows (subBytes x)))
  sub := some (subBytes x)
  shift := some (shiftRows (subBytes x))
  mix := some (mixColumns (shiftRows (subBytes x)))

/-- E[Nr]: the final round of the cipher, "no column mixing" (42 R130 step 5). -/
def encFinal (w : List Word) (r : Nat) (x : Block) : Snapshot where
  round := r
  kind := .final
  input := none
  rkey := roundKey w r
  keyed := addRoundKey w r (shiftRows (subBytes x))
  sub := some (subBytes x)
  shift := some (shiftRows (subBytes x))
  mix := none

/-- `count` interior rounds from round `r` on the state `x`: their snapshots and the state they leave (42 R130 step 4). -/
def encRounds (w : List Word) : Nat → Nat → Block → List Snapshot × Block
  | 0, _, x => ([], x)
  | count + 1, r, x =>
    let e := encInterior w r x
    let rest := encRounds w count (r + 1) e.keyed
    (e :: rest.1, rest.2)

/-- The rounds of the cipher under a given schedule (42 R130 steps 3 to 6). -/
def encryptWith (w : List Word) (nr : Nat) (p : Block) : CipherRun :=
  let e0 := encInitial w p
  let mid := encRounds w (nr - 1) 1 e0.keyed
  let last := encFinal w nr mid.2
  ⟨last.keyed, e0 :: (mid.1 ++ [last]), w⟩

/-- `encrypt(P, K)` (42 R130). -/
def encrypt (p : Block) (key : List Word) (nr : Nat) : CipherRun := encryptWith (expand key nr) nr p

/-- D[0]: round Nr of the inverse cipher (42 R131). Its SUB field is the state it hands on. -/
def decFinal (w : List Word) (nr : Nat) (c : Block) : Snapshot where
  round := nr
  kind := .final
  input := some c
  rkey := roundKey w nr
  keyed := addRoundKey w nr c
  sub := some (invSubBytes (invShiftRows (addRoundKey w nr c)))
  shift := some (invShiftRows (addRoundKey w nr c))
  mix := none

/-- The state the inverse cipher's first round hands on (42 R131). -/
def decFinalOut (w : List Word) (nr : Nat) (c : Block) : Block := invSubBytes (invShiftRows (addRoundKey w nr c))

/-- The state an interior round of the inverse cipher hands on (42 R131). -/
def decInteriorOut (w : List Word) (r : Nat) (x : Block) : Block :=
  invSubBytes (invShiftRows (invMixColumns (addRoundKey w r x)))

/-- D[Nr - r]: an interior round of the inverse cipher on the state `x` (42 R131). -/
def decInterior (w : List Word) (r : Nat) (x : Block) : Snapshot where
  round := r
  kind := .interior
  input := none
  rkey := roundKey w r
  keyed := addRoundKey w r x
  sub := some (decInteriorOut w r x)
  shift := some (invShiftRows (invMixColumns (addRoundKey w r x)))
  mix := some (invMixColumns (addRoundKey w r x))

/-- D[Nr]: round 0 of the inverse cipher, key-XOR only (42 R131). -/
def decInitial (w : List Word) (x : Block) : Snapshot where
  round := 0
  kind := .initial
  input := none
  rkey := roundKey w 0
  keyed := addRoundKey w 0 x
  sub := none
  shift := none
  mix := none

/-- The interior rounds `r, r - 1, ..., 1` of the inverse cipher on the state `x` (42 R131). -/
def decRounds (w : List Word) : Nat → Block → List Snapshot × Block
  | 0, x => ([], x)
  | r + 1, x =>
    let rest := decRounds w r (decInteriorOut w (r + 1) x)
    (decInterior w (r + 1) x :: rest.1, rest.2)

/-- The rounds of the inverse cipher under a given schedule (42 R131). -/
def decryptWith (w : List Word) (nr : Nat) (c : Block) : CipherRun :=
  let mid := decRounds w (nr - 1) (decFinalOut w nr c)
  let last := decInitial w mid.2
  ⟨last.keyed, decFinal w nr c :: (mid.1 ++ [last]), w⟩

/-- `decrypt(C, K)` (42 R131). -/
def decrypt (c : Block) (key : List Word) (nr : Nat) : CipherRun := decryptWith (expand key nr) nr c

end Sys2Proof.Machine
end

