-- ==== Sys2Proof/Machine/Trace.lean ====
section
/-! DEFINITION. The words of the trace buffer (spec 10_state R35, R36, 42_block_cipher R139). -/
namespace Sys2Proof.Machine

/-- KIND (10 R36). -/
def kindCode : RoundKind → Nat
  | .initial => 1
  | .interior => 2
  | .final => 3

/-- DIR (10 R36). -/
def dirCode : Dir → Nat
  | .encrypt => 0
  | .decrypt => 1

/-- The field of a snapshot in a sub-slot, if it carries one (10 R37). Sub-slots 0 and 7 hold no field. -/
def snapshotField (e : Snapshot) (slot : Nat) : Option Block :=
  match slot with
  | 1 => e.input
  | 2 => some e.rkey
  | 3 => some e.keyed
  | 4 => e.sub
  | 5 => e.shift
  | 6 => e.mix
  | _ => none

/-- PRESENT, in place: bit 16 + s where sub-slot s holds a field (10 R36, 42 R139). -/
def presentBits (e : Snapshot) : Word :=
  [1, 2, 3, 4, 5, 6].foldl
    (fun acc slot => if (snapshotField e slot).isSome then acc ||| ((1 : Word) <<< (16 + slot)) else acc) 0

/-- The descriptor word of an entry (10 R36, 42 R139). -/
def descriptorWord (d : Dir) (e : Snapshot) : Word :=
  BitVec.ofNat 32 e.round ||| (BitVec.ofNat 32 (kindCode e.kind) <<< 4) ||| (BitVec.ofNat 32 (dirCode d) <<< 8) ||| presentBits e

/-- Word `i` of the entry of a snapshot (42 R139). -/
def entryWord (d : Dir) (e : Snapshot) (i : Fin 32) : Word :=
  if i.val = 0 then descriptorWord d e
  else
    match snapshotField e (i.val / 4) with
    | some b => blockWord b ⟨i.val % 4, Nat.mod_lt _ (by decide)⟩
    | none => 0

/-- The 32 words of the entry of a snapshot (42 R139). -/
def entryWords (d : Dir) (e : Snapshot) : Vector Word 32 := Vector.ofFn (entryWord d e)

/-- The words of an entry no snapshot fills: "Entries Nr+1..14 become 0" (42 R139). -/
def emptyEntry : Vector Word 32 := Vector.replicate 32 0

/-- The buffer after a trace of snapshots is written (42 R139). -/
def traceWords (d : Dir) (t : List Snapshot) : Vector (Vector Word 32) 15 :=
  Vector.ofFn fun e =>
    match t[e.val]? with
    | some snap => entryWords d snap
    | none => emptyEntry

/-- PRESENT bit `16 + slot` of a stored descriptor (10 R36). -/
def presentBit (descriptor : Word) (slot : Nat) : Bool := descriptor.getLsbD (16 + slot)

end Sys2Proof.Machine
end

