-- ==== Sys2Proof/Machine/Ops.lean ====
section
/-! DEFINITION. The named operations over the registers: what commands write, completion with or without an error, reset,
acceptance of a command, and the bus transactions (spec 10_state, 20_memory, 60_exceptions R161, 70 R185). -/
namespace Sys2Proof.Machine

/-! ## What commands write -/

/-- RESULT (10 R27). -/
def State.setResult (s : State) (v : Word) : State := { s with result := v }

/-- A byte result, zero-extended (10 R27). -/
def State.setByteResult (s : State) (b : Byte) : State := s.setResult (b.setWidth 32)

/-- BOUT (10 R31). -/
def State.setBout (s : State) (x : Block) : State := { s with bout := blockToBank x }

/-- A bank of `n` registers holding the words of a list and 0 beyond its end. -/
def fillBank (n : Nat) (w : List Word) : Vector Word n := Vector.ofFn fun i => wordAt w i.val

/-- SCHED and SCHEDLEN: the words of a schedule, 0 beyond them (41 R116). -/
def State.loadSched (s : State) (w : List Word) : State :=
  { s with sched := fillBank 60 w, schedLen := BitVec.ofNat 8 w.length }

/-- KOUT and KOLEN: the words of the derived key, 0 beyond them, and its length in bytes (41 R117). -/
def State.setKout (s : State) (w : List Word) : State :=
  { s with kout := fillBank 8 w, koLen := BitVec.ofNat 8 (4 * w.length) }

/-- The trace is invalidated (42 R135). The stored words are kept; no read shows them (93 U11, log 10). -/
def State.dropTrace (s : State) : State := { s with tv := false, tnum := 0, tdir := false }

/-- The trace is written and valid (42 R137 to R139). -/
def State.recordTrace (s : State) (d : Dir) (t : List Snapshot) : State :=
  { s with
    trace := traceWords d t
    tv := true
    tnum := BitVec.ofNat 4 t.length
    tdir := decide (d = .decrypt) }

/-! ## Completion -/

/-- The completion of a command (60 R161): its rule's writes and the completion update together; where the rule raises an
error, the completion update alone (60 R163). -/
def completed (op : Byte) (s : State) (outcome : Except ErrorCode State) : State :=
  match outcome with
  | .ok t => t.finish op .none
  | .error e => s.finish op e

/-- The completion, as a step's outcome: the engine never stops (60 R167). -/
def complete (op : Byte) (s : State) (outcome : Except ErrorCode State) : Host.Outcome State Fault Refusal :=
  .next (completed op s outcome)

/-- The completion of a word that is no legal command: E_ILLOP or E_RSVD and no other effect (30 R75, R76; 60 R163). -/
def State.reject (s : State) (w : Word) (e : DecodeError) : State := s.finish (opField w) (decodeErrorCode e)

/-! ## Reset -/

/-- Every register and hidden state of the engine at its reset value (10 R42); what stands outside the engine is untouched. -/
def State.resetEngine (s : State) : State :=
  { State.reset with rstN := s.rstN, rsp := s.rsp, host := s.host, turns := s.turns, draws := s.draws }

/-- The response of the transaction just performed (20 R50). -/
def State.respond (s : State) (r : Response) : State := { s with rsp := some r }

/-- The soft reset, performed by the CMD write itself: the command in flight is abandoned, all state is reset, the write
responds OKAY (43 R151). -/
def State.softReset (s : State) : State := s.resetEngine.respond (.write .okay)

/-- The reset pin is driven to a level (70 R185): while it is low, and when it rises, every register holds its reset value;
no transaction is answered (log 8). -/
def State.setPin (s : State) (level : Bool) : State :=
  { s.resetEngine with rstN := level, rsp := none }

/-- The pin driven high while it is high already is no event. -/
def State.drivePin (s : State) (level : Bool) : State :=
  if s.rstN && level then s else s.setPin level

/-! ## Acceptance of a command -/

/-- A command word is accepted (10 R22(b)): CMD, PEND, BUSY, DONE, ERR, ECODE; the sequencer starts (10 R39). -/
def State.accept (s : State) (v : Word) : State :=
  { s with cmd := v, pend := some v, done := false, err := false, ecode := .none, seq := firstStageOf v }

/-- A write is refused because BUSY = 1: OVR and SLVERR, the value is dropped (10 R22(c), 20 R62). -/
def State.refuse (s : State) : State := s.setOverrun.respond (.write .slverr)

/-- The SRST word (30 R77). -/
def srstWord : Word := 0x0000003F

/-- The command that acts at a write itself: SRST, when its word is written to CMD (10 R22(a), 30 R77). -/
def runsAtWrite (a : Addr) (v : Word) : Option Instr :=
  if regAt a = some .cmd ∧ v = srstWord then some .srst else none

/-- A write to CMD of a word that is not the SRST word (10 R22(b), (c)). -/
def State.writeCmd (s : State) (v : Word) : State :=
  if s.busy then s.refuse else (s.accept v).respond (.write .okay)

/-! ## Reads -/

/-- ID_VALUE, the ASCII bytes "AES1" (10 R21). -/
def idValue : Word := 0x41455331

/-- The view of SCHED[i]: 0 from SCHEDLEN on (10 R34). -/
def schedView (s : State) (i : Fin 60) : Word := if i.val < s.schedLen.toNat then s.sched[i] else 0

/-- The view of TRACE[e][w]: absent fields, unused entries and an invalid trace read 0 (10 R38). -/
def traceView (s : State) (e : Fin 15) (w : Fin 32) : Word :=
  if s.tv = false ∨ s.tnum.toNat ≤ e.val then 0
  else if w.val = 0 then s.trace[e][(0 : Fin 32)]
  else if 1 ≤ w.val / 4 ∧ w.val / 4 ≤ 6 ∧ presentBit s.trace[e][(0 : Fin 32)] (w.val / 4) then s.trace[e][w]
  else 0

/-- `view`: the value of a register as the host reads it (20 R61). -/
def view (s : State) : Reg → Word
  | .id => idValue
  | .cmd => s.cmd
  | .status => statusWord s
  | .irqen => irqenWord s
  | .result => s.result
  | .xin => s.xin
  | .info => infoWord s
  | .key j => s.key[j]
  | .bin c => s.bin[c]
  | .bout c => s.bout[c]
  | .seg j => s.seg[j]
  | .kout j => s.kout[j]
  | .sched i => schedView s i
  | .trace e w => traceView s e w

/-- A free value is drawn: the read answers it and the counter moves on, so the next draw is a fresh one (20 R61, 93 U1; log 3). -/
def State.drawRead (s : State) : State :=
  { s with rsp := some (.read .okay (Config.draw s.draws)), draws := s.draws + 1 }

/-- A host read (20 R61). -/
def State.busRead (s : State) (a : Addr) : State :=
  match regAt a with
  | none => s.respond (.read .slverr 0)
  | some r =>
    if regClass r = .output ∧ s.busy then s.drawRead
    else s.respond (.read .okay (view s r))

/-! ## Writes -/

/-- An input register takes a value (20 R62); a register of another class is not written by this. -/
def State.setInput (s : State) (r : Reg) (v : Word) : State :=
  match r with
  | .xin => { s with xin := v }
  | .key j => { s with key := s.key.set j v }
  | .bin c => { s with bin := s.bin.set c v }
  | .seg j => { s with seg := s.seg.set j v }
  | .id | .cmd | .status | .irqen | .result | .info | .bout _ | .kout _ | .sched _ | .trace _ _ => s

/-- A write to an input register (20 R62). -/
def State.writeInput (s : State) (r : Reg) (v : Word) : State :=
  if s.busy then s.refuse else (s.setInput r v).respond (.write .okay)

/-- A write to a register of the window (20 R55, R62). -/
def State.writeReg (s : State) (r : Reg) (v : Word) : State :=
  match r with
  | .cmd => s.writeCmd v
  | .status => (s.clearStatus v).respond (.write .okay)
  | .irqen => (s.setIrqen v).respond (.write .okay)
  | .xin | .key _ | .bin _ | .seg _ => s.writeInput r v
  | .id | .info | .result | .bout _ | .kout _ | .sched _ | .trace _ _ => s.respond (.write .slverr)

/-- A host write that is not the soft reset (20 R62; the soft reset is `runsAtWrite`). -/
def State.busWrite (s : State) (a : Addr) (v : Word) : State :=
  match regAt a with
  | none => s.respond (.write .slverr)
  | some r => s.writeReg r v

/-! ## The host's transactions -/

/-- A transaction while rst_n is low: the engine does not respond (70 R185; log 8). -/
def State.noResponse (s : State) : State := { s with rsp := none }

/-- WAIT at the head of the host's program (30 R80): one poll of STATUS. It stays there while bit 0 of the value read is 1,
and while there is no response (log 15). -/
def State.poll (s : State) (rest : List HostOp) : State :=
  if s.rstN then
    if (statusWord s).getLsbD 0 then s.busRead (offsetOf .status)
    else { s.busRead (offsetOf .status) with host := rest }
  else s.noResponse

/-- The command in flight, or `none` while there is none or rst_n is low: what the engine's step completes (60 R161, 70 R185). -/
def State.inFlight (s : State) : Option Word := if s.rstN then s.pend else none

end Sys2Proof.Machine
end

