-- ==== Sys2Proof/Machine/CipherUnit.lean ====
section
/-! DEFINITION. The meanings of the block commands (spec 42_block_cipher R135 to R138). -/
namespace Sys2Proof.Machine

/-- The run of the cipher on BIN under the key of a size (42 R135). -/
def encryptRun (s : State) (k : KeySize) : CipherRun := encrypt (inputBlock s) (keyWords s k) k.nr

/-- The run of the inverse cipher on BIN under the key of a size (42 R136). -/
def decryptRun (s : State) (k : KeySize) : CipherRun := decrypt (inputBlock s) (keyWords s k) k.nr

/-- BOUT, SCHED and SCHEDLEN after a run (42 R135). -/
def State.cipherOut (s : State) (r : CipherRun) : State := (s.setBout r.result).loadSched r.sched

/-- ENC (42 R135). -/
def execEnc (klen blen : Byte) (s : State) : Host.Outcome State Fault Refusal :=
  complete (Instr.enc klen blen).opcode s
    ((checkCipher klen blen).map fun k => (s.cipherOut (encryptRun s k)).dropTrace)

/-- DEC (42 R136). -/
def execDec (klen blen : Byte) (s : State) : Host.Outcome State Fault Refusal :=
  complete (Instr.dec klen blen).opcode s
    ((checkCipher klen blen).map fun k => (s.cipherOut (decryptRun s k)).dropTrace)

/-- ENCT (42 R137). -/
def execEnct (klen blen : Byte) (s : State) : Host.Outcome State Fault Refusal :=
  complete (Instr.enct klen blen).opcode s
    ((checkCipher klen blen).map fun k => (s.cipherOut (encryptRun s k)).recordTrace .encrypt (encryptRun s k).trace)

/-- DECT (42 R138). -/
def execDect (klen blen : Byte) (s : State) : Host.Outcome State Fault Refusal :=
  complete (Instr.dect klen blen).opcode s
    ((checkCipher klen blen).map fun k => (s.cipherOut (decryptRun s k)).recordTrace .decrypt (decryptRun s k).trace)

end Sys2Proof.Machine
end

