-- ==== Sys2Proof/Machine/GfUnit.lean ====
section
/-! DEFINITION. The meanings of the GF unit's commands (spec 40_galois_field R100 to R105). -/
namespace Sys2Proof.Machine

/-- GFMUL (40 R100). -/
def execGfmul (a b : Byte) (s : State) : Host.Outcome State Fault Refusal :=
  complete (Instr.gfmul a b).opcode s (.ok (s.setByteResult (gfmul a b)))

/-- SBOX (40 R101). -/
def execSbox (x : Byte) (s : State) : Host.Outcome State Fault Refusal :=
  complete (Instr.sbox x).opcode s (.ok (s.setByteResult (sbox x)))

/-- INVSBOX (40 R102). -/
def execInvsbox (y : Byte) (s : State) : Host.Outcome State Fault Refusal :=
  complete (Instr.invsbox y).opcode s (.ok (s.setByteResult (invSbox y)))

/-- RCON: the word (RC(i), 0, 0, 0); RCON 0 raises E_OPERAND (40 R103). -/
def execRcon (i : Byte) (s : State) : Host.Outcome State Fault Refusal :=
  complete (Instr.rcon i).opcode s ((checkRcon i).map fun n => s.setResult (packWord (rconColumn n)))

/-- MIXCOL (40 R104). -/
def execMixcol (s : State) : Host.Outcome State Fault Refusal :=
  complete Instr.mixcol.opcode s (.ok (s.setResult (packWord (mixcol (inputColumn s)))))

/-- INVMIXCOL (40 R105). -/
def execInvmixcol (s : State) : Host.Outcome State Fault Refusal :=
  complete Instr.invmixcol.opcode s (.ok (s.setResult (packWord (invmixcol (inputColumn s)))))

end Sys2Proof.Machine
end

