-- ==== Sys2Proof/Machine/KeyUnit.lean ====
section
/-! DEFINITION. The meanings of the key schedule's commands (spec 41_key_schedule R116, R117). -/
namespace Sys2Proof.Machine

/-- What EXPAND writes: the schedule of the key for a round count (41 R116). -/
def State.expanded (s : State) (k : KeySize) (rounds : Nat) : State := s.loadSched (expand (keyWords s k) rounds)

/-- What DERIVE writes: the reconstructed array and the key it begins with (41 R117). -/
def State.derived (s : State) (k : KeySize) (off : Nat) : State :=
  (s.loadSched (derive (segWords s k) off)).setKout ((derive (segWords s k) off).take k.nk)

/-- EXPAND (41 R116). -/
def execExpand (klen rounds : Byte) (s : State) : Host.Outcome State Fault Refusal :=
  complete (Instr.expand klen rounds).opcode s ((checkExpand klen rounds).map fun k => s.expanded k rounds.toNat)

/-- DERIVE (41 R117). -/
def execDerive (nk off : Byte) (s : State) : Host.Outcome State Fault Refusal :=
  complete (Instr.derive nk off).opcode s ((checkDerive nk off).map fun k => s.derived k off.toNat)

end Sys2Proof.Machine
end

