-- ==== Sys2Proof/Machine/SystemUnit.lean ====
section
/-! DEFINITION. The meanings of the system commands (spec 43_system R150, R151). -/
namespace Sys2Proof.Machine

/-- NOP: the completion update only (43 R150). -/
def execNop (s : State) : Host.Outcome State Fault Refusal := complete Instr.nop.opcode s (.ok s)

/-- SRST: the soft reset, performed by the CMD write itself; it has no completion step (43 R151). -/
def execSrst (s : State) : Host.Outcome State Fault Refusal := .next s.softReset

end Sys2Proof.Machine
end

