-- ==== Sys2Proof/Machine/Dispatch.lean ====
section
/-! DEFINITION. One arm per command: the completion step of the command (spec 60_exceptions R161), and for SRST what its
CMD write performs (43_system R151). -/
namespace Sys2Proof.Machine

def exec (i : Instr) (s : State) : Host.Outcome State Fault Refusal :=
  match i with
  | .nop => Sys2Proof.Machine.execNop s
  | .gfmul a b => Sys2Proof.Machine.execGfmul a b s
  | .sbox x => Sys2Proof.Machine.execSbox x s
  | .invsbox y => Sys2Proof.Machine.execInvsbox y s
  | .rcon n => Sys2Proof.Machine.execRcon n s
  | .mixcol => Sys2Proof.Machine.execMixcol s
  | .invmixcol => Sys2Proof.Machine.execInvmixcol s
  | .expand klen rounds => Sys2Proof.Machine.execExpand klen rounds s
  | .derive nk off => Sys2Proof.Machine.execDerive nk off s
  | .enc klen blen => Sys2Proof.Machine.execEnc klen blen s
  | .dec klen blen => Sys2Proof.Machine.execDec klen blen s
  | .enct klen blen => Sys2Proof.Machine.execEnct klen blen s
  | .dect klen blen => Sys2Proof.Machine.execDect klen blen s
  | .srst => Sys2Proof.Machine.execSrst s

end Sys2Proof.Machine
end

