-- ==== Sys2Proof/Machine/Step.lean ====
section
/-! DEFINITION. One step of the machine: whoever's turn it is moves (spec 00_scope R10, 60_exceptions R161, 70 R193). -/
namespace Sys2Proof.Machine

/-- The engine's step: the completion of the command in flight, enabled exactly when BUSY = 1 (60 R161). Where it is not
enabled nothing happens (log 14). -/
def engineStep (s : State) : Host.Outcome State Fault Refusal :=
  match s.inFlight with
  | none => .next s
  | some w =>
    match decode w with
    | .ok i => exec i s
    | .error e => .next (s.reject w e)

/-- A host write (20 R62); the SRST word written to CMD runs at once (10 R22(a)). -/
def writeStep (a : Addr) (v : Word) (s : State) : Host.Outcome State Fault Refusal :=
  match runsAtWrite a v with
  | some i => exec i s
  | none => .next (s.busWrite a v)

/-- The host's step: its next transaction; a host that has none left does nothing (00 R10, log 14). -/
def hostStep (s : State) : Host.Outcome State Fault Refusal :=
  match s.host with
  | [] => .next s
  | .wait :: rest => .next (s.poll rest)
  | .read a :: rest => .next (if s.rstN then { s with host := rest }.busRead a else { s with host := rest }.noResponse)
  | .write a v :: rest =>
    if s.rstN then writeStep a v { s with host := rest } else .next { s with host := rest }.noResponse

/-- One step: the next turn is taken; with no turn left, the engine completes the command in flight, else the host moves (log 1). -/
def step (s : State) : Host.Outcome State Fault Refusal :=
  match s.turns with
  | [] => if s.inFlight.isSome then engineStep s else hostStep s
  | .host :: rest => hostStep { s with turns := rest }
  | .engine :: rest => engineStep { s with turns := rest }
  | .stage :: rest => .next { s with turns := rest }.advanceSeq
  | .pin level :: rest => .next ({ s with turns := rest }.drivePin level)

/-- The state with a command word placed so that the very next step runs it (log 12): the word has been accepted and no turn
precedes the engine's; the SRST word, which acts at its CMD write and is never in flight, is the host's next transaction. -/
def State.withFetchWord (s : State) (nbits w : Nat) : State :=
  match runsAtWrite (offsetOf .cmd) (tableWord nbits w) with
  | some _ => { s with rstN := true, turns := [.host], host := .write (offsetOf .cmd) (tableWord nbits w) :: s.host }
  | none => { s with rstN := true, turns := [] }.accept (tableWord nbits w)

end Sys2Proof.Machine
end

