-- ==== Sys2Proof/Machine/Assembler.lean ====
section
/-! DEFINITION. The written form of a command: its mnemonic, then its operand fields separated by commas, each in decimal or as
0x hexadecimal (spec 30_encoding R79; what the rule leaves open of the written form: log 17). -/
namespace Sys2Proof.Machine

/-- The spelling of a mnemonic (30 R79). -/
def mnemonicName : Mnemonic → String
  | .nop => "NOP"
  | .gfmul => "GFMUL"
  | .sbox => "SBOX"
  | .invsbox => "INVSBOX"
  | .rcon => "RCON"
  | .mixcol => "MIXCOL"
  | .invmixcol => "INVMIXCOL"
  | .expand => "EXPAND"
  | .derive => "DERIVE"
  | .enc => "ENC"
  | .dec => "DEC"
  | .enct => "ENCT"
  | .dect => "DECT"
  | .srst => "SRST"

/-- Every mnemonic (30 R79). -/
def allMnemonics : List Mnemonic :=
  [.nop, .gfmul, .sbox, .invsbox, .rcon, .mixcol, .invmixcol, .expand, .derive, .enc, .dec, .enct, .dect, .srst]

/-- The value of a digit in a base up to 16. -/
def digitValue (base : Nat) (c : Char) : Option Nat :=
  let n := c.toNat
  let v := if 48 ≤ n ∧ n ≤ 57 then n - 48 else if 97 ≤ n ∧ n ≤ 102 then n - 87 else if 65 ≤ n ∧ n ≤ 70 then n - 55 else base
  if v < base then some v else none

/-- The value of a run of digits that follows the value `acc`. -/
def digitsValue (base : Nat) : Nat → List Char → Option Nat
  | acc, [] => some acc
  | acc, c :: rest =>
    match digitValue base c with
    | some d => digitsValue base (acc * base + d) rest
    | none => none

/-- A field as written, decimal or `0x` hexadecimal (30 R79). -/
def fieldValue : List Char → Option Nat
  | [] => none
  | '0' :: 'x' :: [] => none
  | '0' :: 'x' :: digits => digitsValue 16 0 digits
  | digits => digitsValue 10 0 digits

/-- A field without the spaces around it; a space between its characters stays, and no number has one (30 R79; log 17). -/
def stripSpaces (f : List Char) : List Char :=
  ((f.dropWhile (· = ' ')).reverse.dropWhile (· = ' ')).reverse

/-- The text between the commas of a written operand list (30 R79). -/
def splitCommas : List Char → List (List Char)
  | [] => [[]]
  | c :: rest =>
    if c = ',' then [] :: splitCommas rest
    else
      match splitCommas rest with
      | [] => [[c]]
      | f :: fs => (c :: f) :: fs

/-- The fields of a written operand list (30 R79). -/
def splitFields (text : List Char) : List (List Char) := (splitCommas text).map stripSpaces

/-- The values of a list of fields, if each is a number. -/
def fieldValues : List (List Char) → Option (List Nat)
  | [] => some []
  | f :: fs =>
    match fieldValue f, fieldValues fs with
    | some v, some vs => some (v :: vs)
    | _, _ => none

/-- A written line as an assembler line (30 R79; log 17). -/
def parseLine (text : List Char) : Option AsmLine :=
  let name := text.takeWhile (· ≠ ' ')
  let rest := (text.dropWhile (· ≠ ' ')).dropWhile (· = ' ')
  match allMnemonics.find? fun m => decide ((mnemonicName m).toList = name) with
  | none => none
  | some m => if rest = [] then some ⟨m, []⟩ else (fieldValues (splitFields rest)).map fun vs => ⟨m, vs⟩

/-- The command word of a written line (30 R79). -/
def assembleText (text : List Char) : Option Word := (parseLine text).bind assemble

end Sys2Proof.Machine
end

