-- ==== Sys2Proof/Machine/HostProgram.lean ====
section
/-! DEFINITION. The notation of host programs (spec 30_encoding R80, R81; 20_memory R50; 70 R197). -/
namespace Sys2Proof.Machine

/-- `BASE + offset`: the platform address of a window offset (30 R80, 00 R5). -/
def windowAddress (a : Addr) : Nat := Config.base + a.toNat

/-- "The engine decodes only addr[11:0]" of a platform address (20 R50). -/
def decodedAddress (n : Nat) : Addr := BitVec.ofNat 12 n

/-- `W REG, value` (30 R80). -/
def hostW (r : Reg) (v : Word) : HostOp := .write (offsetOf r) v

/-- `R REG` (30 R80). -/
def hostR (r : Reg) : HostOp := .read (offsetOf r)

/-- `ISSUE <command>` expands to `W CMD, enc(<command>)`; a command an assembler refuses makes no line (30 R79, R80). -/
def hostIssue (l : AsmLine) : Option (List HostOp) := (assemble l).map fun w => [hostW .cmd w]

/-- `RUN <command>` = `ISSUE <command>; WAIT` (30 R80). -/
def hostRun (l : AsmLine) : Option (List HostOp) := (hostIssue l).map (· ++ [.wait])

/-- The bytes of a word, first byte first (00 R8). -/
def columnBytes (c : Column) : List Byte := [c.a0, c.a1, c.a2, c.a3]

/-- The 16 bytes of a block, column by column (00 R8). -/
def blockBytes (b : Block) : List Byte := columnBytes b.c0 ++ columnBytes b.c1 ++ columnBytes b.c2 ++ columnBytes b.c3

/-- The words of a byte sequence, 4 bytes each. Fewer than 4 bytes at the end make no word: log 19. -/
def wordsOfBytes : List Byte → List Column
  | a0 :: a1 :: a2 :: a3 :: rest => ⟨a0, a1, a2, a3⟩ :: wordsOfBytes rest
  | _ => []

/-- `WSEQ BANK, <bytes>`: one write per 4 bytes, packed by 20 R56; `bank j` is BANK[j] for the bank's own indexes (30 R80).
The spec does not say what the line is for a number of bytes that is no multiple of 4, nor for more words than the bank has: the
bytes after the last whole word, and the words beyond the bank, are dropped. DESIGN CHOICE (log 19); unsafe. -/
def hostWseq {n : Nat} (bank : Fin n → Reg) (bytes : List Byte) : List HostOp :=
  ((List.finRange n).zip (wordsOfBytes bytes)).map fun p => hostW (bank p.1) (packWord p.2)

/-- `RSEQ BANK, count` (30 R80). The spec does not say what the line is for a count beyond the bank: the reads beyond it are dropped.
DESIGN CHOICE (log 19); unsafe. -/
def hostRseq {n : Nat} (bank : Fin n → Reg) (count : Nat) : List HostOp :=
  ((List.finRange n).take count).map fun j => hostR (bank j)

/-- The reads of TRACE, entry by entry and word by word (30 R81; which words are read: log 18). -/
def hostReadTrace : List HostOp :=
  (List.finRange 15).flatMap fun e => (List.finRange 32).map fun w => hostR (.trace e w)

/-- `<writes>; RUN <command>; <reads>`, the shape of every program of 30 R81; none: an assembler refuses the command (30 R79). -/
def hostOperation (writes : List HostOp) (l : AsmLine) (reads : List HostOp) : Option (List HostOp) :=
  (hostRun l).map fun run => writes ++ run ++ reads

/-- `WSEQ KEY, key; WSEQ BIN, block`: what the programs of the block operations begin with (30 R81). -/
def hostKeyAndBlock (key : List Byte) (block : Block) : List HostOp :=
  hostWseq Reg.key key ++ hostWseq Reg.bin (blockBytes block)

/-- The host program of `encrypt(block, key)` with a key of L bytes, any L (30 R81). -/
def hostEncrypt (key : List Byte) (block : Block) : Option (List HostOp) :=
  hostOperation (hostKeyAndBlock key block) ⟨.enc, [key.length]⟩ (hostRseq Reg.bout 4)

/-- The host program of `decrypt(block, key)`: "the same with DEC" (30 R81). -/
def hostDecrypt (key : List Byte) (block : Block) : Option (List HostOp) :=
  hostOperation (hostKeyAndBlock key block) ⟨.dec, [key.length]⟩ (hostRseq Reg.bout 4)

/-- The host program of `encryptTraced(block, key)`: ENCT, then TRACE is read (30 R81; log 18). -/
def hostEncryptTraced (key : List Byte) (block : Block) : Option (List HostOp) :=
  hostOperation (hostKeyAndBlock key block) ⟨.enct, [key.length]⟩ hostReadTrace

/-- The host program of `decryptTraced(block, key)`: DECT, then TRACE is read (30 R81; log 18). -/
def hostDecryptTraced (key : List Byte) (block : Block) : Option (List HostOp) :=
  hostOperation (hostKeyAndBlock key block) ⟨.dect, [key.length]⟩ hostReadTrace

/-- The host program of `expandSchedule(key, rounds)` with a key of L bytes, any L (30 R81). For more than 14 rounds (E_ROUNDS) the
rule's reads run past SCHED[59], where no register is: only SCHED[0..59] are read. DESIGN CHOICE (log 19); unsafe. -/
def hostExpandSchedule (key : List Byte) (rounds : Nat) : Option (List HostOp) :=
  hostOperation (hostWseq Reg.key key) ⟨.expand, [key.length, rounds]⟩ (hostRseq Reg.sched (4 * (rounds + 1)))

/-- The host program of `deriveKey(segment, offset)` for a segment of Nk words, any Nk (30 R81, 41 R114). -/
def hostDeriveKey (seg : List Column) (off : Nat) : Option (List HostOp) :=
  hostOperation (hostWseq Reg.seg (seg.flatMap columnBytes)) ⟨.derive, [seg.length, off]⟩ (hostRseq Reg.kout seg.length)

/-- A host program has ended: every transaction is performed, every WAIT has returned and no command is in flight (70 R197).
The spec does not say whether a transaction that got no response because rst_n was low counts as performed: here it does, and a
program can end while rst_n is low. DESIGN CHOICE (log 8); unsafe. -/
def State.ended (s : State) : Bool := s.host.isEmpty && !s.busy

end Sys2Proof.Machine
end

