-- ==== Sys2Proof/Safety.lean ====
section
/-! DEFINITION. What the statements call a safe state and a safe step, in the spec's terms. -/
namespace Sys2Proof.Machine

/-- A step that goes on: it answers a next state (60 R167: the engine never stops). -/
def GoesOn (s : State) : Prop := ∃ t, step s = .next t

/-- PEND, while it is valid, equals CMD and is never the SRST word (10 R22, R39(a)). -/
abbrev PendIsCmd (s : State) : Prop := s.pend = none ∨ (s.pend = some s.cmd ∧ s.cmd ≠ srstWord)

/-- Acceptance clears DONE, ERR and ECODE, and nothing sets them before completion (10 R22(b), R23). -/
abbrev BusyFlagsClear (s : State) : Prop := s.busy = true → s.done = false ∧ s.err = false ∧ s.ecode = .none

/-- ERR is set only at a completion whose ECODE is not 0 (10 R23). -/
abbrev ErrHasCode (s : State) : Prop := s.err = true → s.ecode ≠ .none

/-- A round of the sequencer is one of 0..14 (10 R39). -/
def seqInRange : Seq → Bool
  | .round r => r ≤ 14
  | .start | .done => true

/-- SEQ is Start whenever no command is in flight, and a round it stands at is one of 0..14 (10 R39, 60 R161). -/
abbrev SeqLegal (s : State) : Prop := (s.busy = false → s.seq = .start) ∧ seqInRange s.seq = true

/-- SCHEDLEN is 0..60 and the schedule RAM is 0 beyond it (10 R26, R34). -/
abbrev SchedLegal (s : State) : Prop :=
  s.schedLen.toNat ≤ 60 ∧ ∀ i : Fin 60, s.schedLen.toNat ≤ i.val → s.sched[i] = 0

/-- KOLEN is 0, 16, 24 or 32 and KOUT is 0 beyond it (10 R26, R33). -/
abbrev KoutLegal (s : State) : Prop :=
  (s.koLen = 0 ∨ s.koLen = 16 ∨ s.koLen = 24 ∨ s.koLen = 32) ∧ ∀ j : Fin 8, s.koLen.toNat ≤ 4 * j.val → s.kout[j] = 0

/-- A valid trace has 11, 13 or 15 entries; without one, TNUM and TDIR are 0 (10 R26, 42 R135, R137). -/
abbrev TraceLegal (s : State) : Prop :=
  (s.tv = true → s.tnum = 11 ∨ s.tnum = 13 ∨ s.tnum = 15) ∧ (s.tv = false → s.tnum = 0 ∧ s.tdir = false)

/-- While rst_n is low every register and hidden state holds its reset value and there is no response (70 R185). -/
abbrev PinHolds (s : State) : Prop := s.rstN = false → s = s.resetEngine ∧ s.rsp = none

/-- A legal state of the engine: what every run from reset keeps. -/
abbrev Legal (s : State) : Prop :=
  PendIsCmd s ∧ BusyFlagsClear s ∧ ErrHasCode s ∧ SeqLegal s ∧ SchedLegal s ∧ KoutLegal s ∧ TraceLegal s ∧ PinHolds s

/-- The input registers (20 R53) of two states agree. -/
abbrev SameInputs (s t : State) : Prop := t.xin = s.xin ∧ t.key = s.key ∧ t.bin = s.bin ∧ t.seg = s.seg

/-- What stands outside the engine, but for the response, is the same in two states. -/
abbrev SameOutside (s t : State) : Prop :=
  t.rstN = s.rstN ∧ t.host = s.host ∧ t.turns = s.turns ∧ t.draws = s.draws ∧ t.rsp = s.rsp

end Sys2Proof.Machine
end

