-- ==== Sys2Proof/Certificates/Slice0/Obligations.lean ====
section
/-! DEFINITION. The statements for the provers. Each docstring names the rule of spec/ it formalises; log <n> is
notes/assumptions/<n>.md. The words they share come first, under Sys2Proof.Claims. -/

namespace Sys2Proof.Claims
open Sys2Proof.Machine

/-- A successful completion (60 R161): BUSY 0, DONE 1, ERR 0, ECODE 0, LASTOP, PEND invalid, SEQ Start; all else as in `s`. -/
def success (op : Byte) (s : State) : State :=
  { s with pend := none, seq := .start, done := true, err := false, ecode := .none, lastop := op }

/-- A completion with an error (60 R161, R163): the same update with ERR 1 and the code; all else as in `s`. -/
def failure (op : Byte) (e : ErrorCode) (s : State) : State :=
  { s with pend := none, seq := .start, done := true, err := true, ecode := e, lastop := op }

/-- The host's transaction `op` is the next thing to happen, the pin is released, and `ts`, `rest` are what stays to come. -/
abbrev HostTurn (s : State) (op : HostOp) (ts : List Turn) (rest : List HostOp) : Prop :=
  s.rstN = true ∧ s.host = op :: rest ∧ s.turns = .host :: ts

/-- The host's step is the next to happen, and the pin is released: its turn is next, or no turn is left and no command is in
flight (log 1). -/
def HostMoves (s : State) : Prop :=
  s.rstN = true ∧ ((∃ ts, s.turns = .host :: ts) ∨ (s.turns = [] ∧ s.busy = false))

/-- `s` with the host's transaction taken and the response to it. -/
def answered (s : State) (ts : List Turn) (rest : List HostOp) (r : Response) : State :=
  { s with turns := ts, host := rest, rsp := some r }

/-- OP values that are not assigned (30 R75). -/
abbrev IllegalOpcode (op : Byte) : Prop :=
  (0x07 ≤ op.toNat ∧ op.toNat ≤ 0x0F) ∨ (0x12 ≤ op.toNat ∧ op.toNat ≤ 0x1F) ∨
    (0x24 ≤ op.toNat ∧ op.toNat ≤ 0x3E) ∨ (0x40 ≤ op.toNat ∧ op.toNat ≤ 0xFF)

/-- RSV is not 0, or an operand field the opcode leaves unused is not 0: FB of SBOX, INVSBOX and RCON, and both FA and FB of
NOP, MIXCOL, INVMIXCOL and SRST (30 R76). -/
abbrev ReservedSet (w : Word) : Prop :=
  rsvField w ≠ 0 ∨
    ((opField w = 0x02 ∨ opField w = 0x03 ∨ opField w = 0x04) ∧ fbField w ≠ 0) ∨
    ((opField w = 0x00 ∨ opField w = 0x05 ∨ opField w = 0x06 ∨ opField w = 0x3F) ∧ (faField w ≠ 0 ∨ fbField w ≠ 0))

/-- A legal key length in bytes (00 R6). -/
abbrev KeyLength (klen : Byte) : Prop := klen = 16 ∨ klen = 24 ∨ klen = 32

/-- Nk of a legal key length (00 R6). -/
def nkOf (klen : Byte) : Nat := klen.toNat / 4

/-- Nr of a legal key length: 10, 12, 14 (00 R6). -/
def nrOf (klen : Byte) : Nat := if klen = 16 then 10 else if klen = 24 then 12 else 14

/-- The key a command with key length `klen` reads: KEY[0..klen/4-1] (10 R29). -/
def keyOf (s : State) (klen : Byte) : List Word := s.key.toList.take (nkOf klen)

/-- The segment DERIVE reads: SEG[0..nk-1] (10 R32). -/
def segOf (s : State) (nk : Byte) : List Word := s.seg.toList.take nk.toNat

/-- A bank of `n` registers: the words of a list, 0 beyond its end. -/
def bankOf (n : Nat) (w : List Word) : Vector Word n := Vector.ofFn fun i => w.getD i.val 0

/-- The number of the first error of a command word, in the order of 60 R162; 0: none. SRST's own word is never completed. -/
def firstError (w : Word) : Nat :=
  let fa := (faField w).toNat
  let fb := (fbField w).toNat
  if IllegalOpcode (opField w) then 1
  else if ReservedSet w then 2
  else if opField w = 0x04 then (if fa = 0 then 8 else 0)
  else if opField w = 0x10 then
    (if ¬ KeyLength (faField w) then 3 else if fb < 1 ∨ 14 < fb then 7 else 0)
  else if opField w = 0x11 then
    (if ¬ (fa = 4 ∨ fa = 6 ∨ fa = 8) then 5 else if 60 < fb + fa then 6 else 0)
  else if opField w = 0x20 ∨ opField w = 0x21 ∨ opField w = 0x22 ∨ opField w = 0x23 then
    (if fb ≠ 16 then 4 else if ¬ KeyLength (faField w) then 3 else 0)
  else 0

/-- Byte `k` of a block in source order: row `k mod 4` of column `k div 4` (00 R8). -/
def byteOf (b : Block) (k : Nat) : Byte := blockAt b (Fin.ofNat 4 (k % 4)) (Fin.ofNat 4 (k / 4))

/-- The affine map of the S-box (40 R94). -/
def affine (b : Byte) : Byte :=
  b ^^^ b.rotateLeft 1 ^^^ b.rotateLeft 2 ^^^ b.rotateLeft 3 ^^^ b.rotateLeft 4 ^^^ 0x63

/-- BOUT, SCHED and SCHEDLEN after a run of the cipher or its inverse (42 R135). -/
def cipherWrites (s : State) (klen : Byte) (run : CipherRun) : State :=
  { s with
    bout := blockToBank run.result
    sched := bankOf 60 run.sched
    schedLen := BitVec.ofNat 8 (4 * (nrOf klen + 1)) }

/-- The trace invalidated (42 R135), its stored words, which no read shows, anything: `words`. -/
def noTrace (s : State) (words : Vector (Vector Word 32) 15) : State :=
  { s with tv := false, tnum := 0, tdir := false, trace := words }

/-- The trace written and valid (42 R137, R138). -/
def withTrace (s : State) (klen : Byte) (d : Dir) (run : CipherRun) : State :=
  { s with
    trace := traceWords d run.trace
    tv := true
    tnum := BitVec.ofNat 4 (nrOf klen + 1)
    tdir := decide (d = .decrypt) }

/-- The run of the cipher on BIN and KEY (42 R135). -/
def encRun (s : State) (klen : Byte) : CipherRun := encrypt (bankToBlock s.bin) (keyOf s klen) (nrOf klen)

/-- The run of the inverse cipher on BIN and KEY (42 R136). -/
def decRun (s : State) (klen : Byte) : CipherRun := decrypt (bankToBlock s.bin) (keyOf s klen) (nrOf klen)

/-- The operand checks of a block command of opcode `op`, block length first, then key length (42 R135, 60 R162). -/
def CipherChecks (op : Byte) (cmd : Byte → Byte → Instr) : Prop :=
  (∀ (klen blen : Byte) (s : State), blen ≠ 16 → exec (cmd klen blen) s = .next (failure op .blklen s)) ∧
    ∀ (klen : Byte) (s : State), ¬ KeyLength klen → exec (cmd klen 16) s = .next (failure op .keylen s)

/-- The words of opcode `op` that are not legal complete with E_RSVD and no other effect (30 R76). -/
def OthersAreReserved (op : Byte) (legal : Word → Prop) : Prop :=
  ∀ (s : State) (w : Word), opField w = op → ¬ legal w → s.rstN = true → s.pend = some w →
    engineStep s = .next (failure op .rsvd s)

/-- A command whose two fields are operands: its encoding, and that it is legal exactly when RSV = 0 (30 R74, R76). -/
def TwoFieldCommand (op : Byte) (cmd : Byte → Byte → Instr) : Prop :=
  (∀ a b : Byte, encode (cmd a b) = encFields op a b) ∧
    (∀ w : Word, opField w = op →
      decode w = if rsvField w = 0 then .ok (cmd (faField w) (fbField w)) else .error .reserved) ∧
    OthersAreReserved op (fun w => rsvField w = 0)

/-- A command whose FA is an operand: its encoding, and that it is legal exactly when FB = 0 and RSV = 0 (30 R74, R76). -/
def OneFieldCommand (op : Byte) (cmd : Byte → Instr) : Prop :=
  (∀ a : Byte, encode (cmd a) = encFields op a 0) ∧
    (∀ w : Word, opField w = op →
      decode w = if rsvField w = 0 ∧ fbField w = 0 then .ok (cmd (faField w)) else .error .reserved) ∧
    OthersAreReserved op (fun w => rsvField w = 0 ∧ fbField w = 0)

/-- A command without operands: its one word, and every other word of its opcode is E_RSVD (30 R74, R76). -/
def BareCommand (op : Byte) (cmd : Instr) : Prop :=
  encode cmd = encFields op 0 0 ∧
    (∀ w : Word, opField w = op → decode w = if w = encFields op 0 0 then .ok cmd else .error .reserved) ∧
    OthersAreReserved op (fun w => w = encFields op 0 0)

/-- The GF unit's commands (40). -/
def gfCommand : Instr → Bool
  | .gfmul _ _ | .sbox _ | .invsbox _ | .rcon _ | .mixcol | .invmixcol => true
  | .nop | .expand _ _ | .derive _ _ | .enc _ _ | .dec _ _ | .enct _ _ | .dect _ _ | .srst => false

/-- The block commands (42). -/
def blockCommand : Instr → Bool
  | .enc _ _ | .dec _ _ | .enct _ _ | .dect _ _ => true
  | .nop | .gfmul _ _ | .sbox _ | .invsbox _ | .rcon _ | .mixcol | .invmixcol | .expand _ _ | .derive _ _ | .srst => false

/-- The traced block commands (42 R137, R138). -/
def tracedCommand : Instr → Bool
  | .enct _ _ | .dect _ _ => true
  | .nop | .gfmul _ _ | .sbox _ | .invsbox _ | .rcon _ | .mixcol | .invmixcol | .expand _ _ | .derive _ _ | .enc _ _
  | .dec _ _ | .srst => false

/-- The key schedule's commands (41). -/
def keyCommand : Instr → Bool
  | .expand _ _ | .derive _ _ => true
  | .nop | .gfmul _ _ | .sbox _ | .invsbox _ | .rcon _ | .mixcol | .invmixcol | .enc _ _ | .dec _ _ | .enct _ _
  | .dect _ _ | .srst => false

/-- Where each field of STATUS and INFO reads, and that their reserved bits read 0 (10 R23, R26). -/
def PackedFields (s : State) : Prop :=
  (view s .status).getLsbD 0 = s.busy ∧ (view s .status).getLsbD 1 = s.done ∧ (view s .status).getLsbD 2 = s.err ∧
  (view s .status).getLsbD 3 = s.ovr ∧ (view s .status).getLsbD 4 = s.tv ∧
  (view s .status).extractLsb' 5 3 = 0 ∧ (view s .status).extractLsb' 8 4 = errorNumber s.ecode ∧
  (view s .status).extractLsb' 12 12 = 0 ∧ (view s .status).extractLsb' 24 8 = s.lastop ∧
  (view s .info).extractLsb' 0 8 = s.schedLen ∧ (view s .info).extractLsb' 8 8 = s.koLen ∧
  (view s .info).extractLsb' 16 4 = s.tnum ∧ (view s .info).getLsbD 20 = s.tdir ∧ (view s .info).extractLsb' 21 11 = 0

/-- The views of the registers that are not packed from fields (10 R21 to R38, 20 R61). The trace: 0 if it is invalid, beyond
TNUM, absent by the PRESENT bits of the descriptor, or reserved. -/
def PlainViews (s : State) : Prop :=
  view s .id = 0x41455331 ∧ view s .cmd = s.cmd ∧ view s .result = s.result ∧ view s .xin = s.xin ∧
  (∀ j, view s (.key j) = s.key[j]) ∧ (∀ c, view s (.bin c) = s.bin[c]) ∧ (∀ c, view s (.bout c) = s.bout[c]) ∧
  (∀ j, view s (.seg j) = s.seg[j]) ∧ (∀ j, view s (.kout j) = s.kout[j]) ∧
  (∀ i, view s (.sched i) = if i.val < s.schedLen.toNat then s.sched[i] else 0) ∧
  ∀ e w, view s (.trace e w) =
    if s.tv = true ∧ e.val < s.tnum.toNat ∧
        (w.val = 0 ∨ (4 ≤ w.val ∧ w.val ≤ 27 ∧ s.trace[e][(0 : Fin 32)].getLsbD (16 + w.val / 4) = true))
    then s.trace[e][w] else 0

/-- A register of the schedule bank. -/
def IsSched (r : Reg) : Prop := ∃ i, r = .sched i

/-- A register of the trace bank. -/
def IsTrace (r : Reg) : Prop := ∃ e w, r = .trace e w

/-- A register of the block output bank. -/
def IsBout (r : Reg) : Prop := ∃ c, r = .bout c

/-- A register of the key output bank. -/
def IsKout (r : Reg) : Prop := ∃ j, r = .kout j

/-- `n` stages of the sequencer for a command, from its acceptance (10 R39). -/
def stagesAfter (i : Instr) (n : Nat) : Seq := (nextStage i)^[n] (firstStage i)

/-- The sequencer follows the chain of a command: the host's accepted write of its word leaves SEQ at the chain's first stage,
and a stage turn moves it to the next one and changes nothing else (10 R39; log 4). -/
def SequencerFollows (i : Instr) : Prop :=
  (∀ (s : State) (ts : List Turn) (rest : List HostOp), i ≠ .srst → s.busy = false →
    HostTurn s (.write (offsetOf .cmd) (encode i)) ts rest →
    ∃ t, step s = .next t ∧ t.pend = some (encode i) ∧ t.seq = firstStage i) ∧
  ∀ (s : State) (ts : List Turn), s.rstN = true → s.pend = some (encode i) → s.turns = .stage :: ts →
    step s = .next { s with turns := ts, seq := nextStage i s.seq }

end Sys2Proof.Claims

open Sys2Proof Sys2Proof.Machine Sys2Proof.Claims

/-! ## Encoding -/

/-- Each word has at most one meaning, and decoding an encoded command gives it back (30 R73, R74, R76). -/
def Obligations.DecodeInvertsEncode : Prop :=
  ∀ (w : Word) (i : Instr), decode w = .ok i ↔ w = encode i

/-- 30 R75: an unassigned OP is accepted like any other word and completes with E_ILLOP and no other effect. -/
def Obligations.IllegalOpcodeCompletesWithIllop : Prop :=
  ∀ (s : State) (w : Word), s.rstN = true → IllegalOpcode (opField w) →
    (s.busy = false → writeStep (offsetOf .cmd) w s = .next ((s.accept w).respond (.write .okay))) ∧
    (s.pend = some w → engineStep s = .next (failure (opField w) .illop s))

/-- 30 R76: a set reserved or unused field completes with E_RSVD and no other effect, and the legal encodings of each mnemonic
are exactly the words its row of the opcode table accepts. -/
def Obligations.ReservedFieldsCompleteWithRsvd : Prop :=
  (∀ (s : State) (w : Word), s.rstN = true → s.pend = some w → ¬ IllegalOpcode (opField w) → ReservedSet w →
    engineStep s = .next (failure (opField w) .rsvd s)) ∧
  (∀ (w : Word) (row : OpcodeRow), row ∈ opcodeTable →
    (row.accepts w = true ↔ ∃ i, decode w = .ok i ∧ i.mnemonic = row.mnemonic))

/-- 30 R77: SRST has one legal encoding, acts at its write to CMD and is the only command that acts at a write; any other word with OP = 0x3F is an
ordinary command that completes with E_RSVD, and while BUSY = 1 it is refused. -/
def Obligations.SrstHasOneEncoding : Prop :=
  (∀ w : Word, decode w = .ok .srst ↔ w = 0x0000003F) ∧
  runsAtWrite (offsetOf .cmd) 0x0000003F = some .srst ∧
  (∀ s : State, writeStep (offsetOf .cmd) 0x0000003F s = exec .srst s) ∧
  (∀ (a : Addr) (w : Word) (i : Instr), runsAtWrite a w = some i → i = .srst ∧ w = 0x0000003F ∧ regAt a = some .cmd) ∧
  ∀ (s : State) (w : Word), s.rstN = true → opField w = 0x3F → w ≠ 0x0000003F →
    (faField w ≠ 0 ∨ fbField w ≠ 0 ∨ rsvField w ≠ 0) ∧
    (s.busy = false → writeStep (offsetOf .cmd) w s = .next ((s.accept w).respond (.write .okay))) ∧
    (s.pend = some w → engineStep s = .next (failure 0x3F .rsvd s)) ∧
    (s.busy = true → writeStep (offsetOf .cmd) w s = .next { s with ovr := true, rsp := some (.write .slverr) })

/-- Words written out from 30 R79 and 95 V13 to V26 decode to the commands they stand for, and three that 30 R75 to R77 make
illegal, in the order of 60 R162, are rejected (a sanity statement). -/
def Obligations.WrittenOutWordsDecode : Prop :=
  decode 0x00000000 = .ok .nop ∧
  decode 0x00835701 = .ok (.gfmul 0x57 0x83) ∧
  decode 0x00005302 = .ok (.sbox 0x53) ∧
  decode 0x0000ED03 = .ok (.invsbox 0xED) ∧
  decode 0x00000A04 = .ok (.rcon 10) ∧
  decode 0x00000005 = .ok .mixcol ∧
  decode 0x00000006 = .ok .invmixcol ∧
  decode 0x000A1010 = .ok (.expand 16 10) ∧
  decode 0x00280411 = .ok (.derive 4 40) ∧
  decode 0x00101020 = .ok (.enc 16 16) ∧
  decode 0x00101821 = .ok (.dec 24 16) ∧
  decode 0x00102022 = .ok (.enct 32 16) ∧
  decode 0x00101023 = .ok (.dect 16 16) ∧
  decode 0x0000003F = .ok .srst ∧
  decode 0x00000007 = .error .illegalOp ∧
  decode 0xFF0000FF = .error .illegalOp ∧
  decode 0x0000013F = .error .reserved

/-- 60 R161, 43 R151: the step runs the decoded command. An accepted command runs at the engine's turn; the SRST word runs at
its write to CMD, busy or not. That a machine with no turn left gives the turn to the engine while a command is in flight, and
else to the host, is the model's choice (log 1), and so is that a turn of an agent with nothing to do changes nothing (log 14). -/
def Obligations.StepRunsTheDecodedCommand : Prop :=
  (∀ (s : State) (w : Word) (i : Instr) (ts : List Turn), s.rstN = true → s.pend = some w → decode w = .ok i →
    s.turns = .engine :: ts → step s = exec i { s with turns := ts }) ∧
  (∀ (s : State) (ts : List Turn) (rest : List HostOp), HostTurn s (.write (offsetOf .cmd) 0x0000003F) ts rest →
    step s = exec .srst { s with turns := ts, host := rest }) ∧
  (∀ s : State, s.turns = [] → s.rstN = true →
    (s.busy = true → step s = step { s with turns := [.engine] }) ∧
    (s.busy = false → step s = step { s with turns := [.host] })) ∧
  ∀ (s : State) (ts : List Turn),
    (s.turns = .engine :: ts → s.busy = false → step s = .next { s with turns := ts }) ∧
    (s.turns = .host :: ts → s.host = [] → step s = .next { s with turns := ts })

/-- 30 R79: an assembler takes exactly the lines of the listed forms whose fields are 0..255, and gives them the listed words;
fields are written in decimal or as 0x hexadecimal, and a field with a space inside it is refused. That spaces around a field
are passed over is the model's choice (log 17). -/
def Obligations.AssemblerForms : Prop :=
  (∀ l : AsmLine, (∃ w, assemble l = some w) ↔ l.wf = true) ∧
  (∀ a b : Nat, a ≤ 255 → b ≤ 255 →
    assemble ⟨.nop, []⟩ = some 0x00000000 ∧
    assemble ⟨.gfmul, [a, b]⟩ = some (encFields 0x01 (BitVec.ofNat 8 a) (BitVec.ofNat 8 b)) ∧
    assemble ⟨.sbox, [a]⟩ = some (encFields 0x02 (BitVec.ofNat 8 a) 0) ∧
    assemble ⟨.invsbox, [a]⟩ = some (encFields 0x03 (BitVec.ofNat 8 a) 0) ∧
    assemble ⟨.rcon, [a]⟩ = some (encFields 0x04 (BitVec.ofNat 8 a) 0) ∧
    assemble ⟨.mixcol, []⟩ = some 0x00000005 ∧
    assemble ⟨.invmixcol, []⟩ = some 0x00000006 ∧
    assemble ⟨.expand, [a, b]⟩ = some (encFields 0x10 (BitVec.ofNat 8 a) (BitVec.ofNat 8 b)) ∧
    assemble ⟨.derive, [a, b]⟩ = some (encFields 0x11 (BitVec.ofNat 8 a) (BitVec.ofNat 8 b)) ∧
    assemble ⟨.enc, [a]⟩ = some (encFields 0x20 (BitVec.ofNat 8 a) 16) ∧
    assemble ⟨.enc, [a, b]⟩ = some (encFields 0x20 (BitVec.ofNat 8 a) (BitVec.ofNat 8 b)) ∧
    assemble ⟨.dec, [a]⟩ = some (encFields 0x21 (BitVec.ofNat 8 a) 16) ∧
    assemble ⟨.dec, [a, b]⟩ = some (encFields 0x21 (BitVec.ofNat 8 a) (BitVec.ofNat 8 b)) ∧
    assemble ⟨.enct, [a]⟩ = some (encFields 0x22 (BitVec.ofNat 8 a) 16) ∧
    assemble ⟨.enct, [a, b]⟩ = some (encFields 0x22 (BitVec.ofNat 8 a) (BitVec.ofNat 8 b)) ∧
    assemble ⟨.dect, [a]⟩ = some (encFields 0x23 (BitVec.ofNat 8 a) 16) ∧
    assemble ⟨.dect, [a, b]⟩ = some (encFields 0x23 (BitVec.ofNat 8 a) (BitVec.ofNat 8 b)) ∧
    assemble ⟨.srst, []⟩ = some 0x0000003F) ∧
  assembleText "GFMUL 0x57, 0x83".toList = some 0x00835701 ∧
  assembleText "EXPAND 16, 10".toList = some 0x000A1010 ∧
  assembleText "DERIVE 4, 40".toList = some 0x00280411 ∧
  assembleText "ENCT 32".toList = some 0x00102022 ∧
  assembleText "ENC 3 2".toList = none ∧ assembleText "SBOX 0 x 5 3".toList = none ∧
  ∀ (a b : List Char) (x y : Char), x ≠ ' ' → y ∈ b → y ≠ ' ' → assembleText ("SBOX ".toList ++ a ++ x :: ' ' :: b) = none

/-! ## The bus -/

/-- 20 R53: the register map: each register at its offset, offsets not listed reserved, and the classes. -/
def Obligations.RegisterMapIsExact : Prop :=
  (∀ (a : Addr) (r : Reg), regAt a = some r ↔ a.toNat = offsetNat r) ∧
  offsetNat .id = 0x000 ∧ offsetNat .cmd = 0x004 ∧ offsetNat .status = 0x008 ∧ offsetNat .irqen = 0x00C ∧
  offsetNat .result = 0x010 ∧ offsetNat .xin = 0x014 ∧ offsetNat .info = 0x018 ∧
  (∀ j, offsetNat (.key j) = 0x020 + 4 * j.val) ∧ (∀ c, offsetNat (.bin c) = 0x040 + 4 * c.val) ∧
  (∀ c, offsetNat (.bout c) = 0x050 + 4 * c.val) ∧ (∀ j, offsetNat (.seg j) = 0x060 + 4 * j.val) ∧
  (∀ j, offsetNat (.kout j) = 0x080 + 4 * j.val) ∧ (∀ i, offsetNat (.sched i) = 0x100 + 4 * i.val) ∧
  (∀ e w, offsetNat (.trace e w) = 0x800 + 128 * e.val + 4 * w.val) ∧
  (∀ r, regClass r = .input ↔ r = .xin ∨ (∃ j, r = .key j) ∨ (∃ c, r = .bin c) ∨ ∃ j, r = .seg j) ∧
  (∀ r, regClass r = .output ↔ r = .result ∨ IsBout r ∨ IsKout r ∨ IsSched r ∨ IsTrace r) ∧
  (∀ r, regClass r = .control ↔ r = .id ∨ r = .cmd ∨ r = .status ∨ r = .irqen ∨ r = .info) ∧
  ∀ r, readOnly r = true ↔ r = .id ∨ r = .info ∨ regClass r = .output

/-- 20 R52, R54, R55: a misaligned access, an access to a reserved offset and a write to a read-only register are answered
SLVERR, a read with rdata = 0, and change nothing else: OVR is not set, even while BUSY = 1. -/
def Obligations.BadAccessesChangeNothing : Prop :=
  ∀ (s : State) (a : Addr) (v : Word) (ts : List Turn) (rest : List HostOp),
    (a.toNat % 4 ≠ 0 → HostTurn s (.read a) ts rest → step s = .next (answered s ts rest (.read .slverr 0))) ∧
    (a.toNat % 4 ≠ 0 → HostTurn s (.write a v) ts rest → step s = .next (answered s ts rest (.write .slverr))) ∧
    ((∀ r, a.toNat ≠ offsetNat r) → HostTurn s (.read a) ts rest →
      step s = .next (answered s ts rest (.read .slverr 0))) ∧
    ((∀ r, a.toNat ≠ offsetNat r) → HostTurn s (.write a v) ts rest →
      step s = .next (answered s ts rest (.write .slverr))) ∧
    ∀ r, (r = .id ∨ r = .info ∨ r = .result ∨ IsBout r ∨ IsKout r ∨ IsSched r ∨ IsTrace r) →
      HostTurn s (.write (offsetOf r) v) ts rest → step s = .next (answered s ts rest (.write .slverr))

/-- 20 R61: a host read. An output register read while BUSY = 1 answers a draw, any word: which one, and that each read takes
a fresh one and moves the counter of draws on, is the model's choice of a free value (log 3); every other read of a register answers
its view; a bad address SLVERR and 0; nothing else changes. The views are those of 10 R21 to R38. 30 R80: a WAIT reads STATUS and
stays exactly while BUSY = 1: that it is one read per step of the host is deduced (log 15). -/
def Obligations.HostReadAnswers : Prop :=
  (∀ s : State, PlainViews s ∧ PackedFields s ∧ view s .irqen = bitAt s.doneIE 0 ||| bitAt s.errIE 1) ∧
  ∀ (s : State) (ts : List Turn) (rest : List HostOp),
    (∀ a, regAt a = none → HostTurn s (.read a) ts rest → step s = .next (answered s ts rest (.read .slverr 0))) ∧
    (HostTurn s .wait ts rest →
      step s = .next (answered s ts (if s.busy = true then .wait :: rest else rest) (.read .okay (view s .status)))) ∧
    ∀ r, HostTurn s (.read (offsetOf r)) ts rest →
      (regClass r = .output → s.busy = true →
        step s = .next { answered s ts rest (.read .okay (Config.draw s.draws)) with draws := s.draws + 1 }) ∧
      ((regClass r ≠ .output ∨ s.busy = false) → step s = .next (answered s ts rest (.read .okay (view s r))))

/-- 10 R22: a write to CMD: SRST at once; else accepted if BUSY = 0; else refused with OVR. A read of CMD returns the last
accepted word, 0 after a soft reset. Where SEQ stands after acceptance is left open here. -/
def Obligations.CommandWrite : Prop :=
  ∀ (s : State) (v : Word) (ts : List Turn) (rest : List HostOp), HostTurn s (.write (offsetOf .cmd) v) ts rest →
    (v = 0x0000003F →
      step s = .next { State.reset with
        rstN := s.rstN, host := rest, turns := ts, draws := s.draws, rsp := some (.write .okay) }) ∧
    (v ≠ 0x0000003F → s.busy = false →
      ∃ t q, step s = .next t ∧ t.busy = true ∧ view t .cmd = v ∧
        t = { answered s ts rest (.write .okay) with
          cmd := v, pend := some v, done := false, err := false, ecode := .none, seq := q }) ∧
    (v ≠ 0x0000003F → s.busy = true →
      step s = .next { answered s ts rest (.write .slverr) with ovr := true })

/-- 10 R24: a write to STATUS clears DONE, ERR, OVR where its bits 1, 2, 3 are 1, busy or not, and does nothing else. -/
def Obligations.StatusWriteClears : Prop :=
  ∀ (s : State) (v : Word) (ts : List Turn) (rest : List HostOp), HostTurn s (.write (offsetOf .status) v) ts rest →
    step s = .next { answered s ts rest (.write .okay) with
      done := if v.getLsbD 1 then false else s.done
      err := if v.getLsbD 2 then false else s.err
      ovr := if v.getLsbD 3 then false else s.ovr }

/-- 10 R25: IRQEN: a write sets bits 1:0, busy or not; bits 31:2 read 0 and ignore writes. -/
def Obligations.IrqenWrite : Prop :=
  (∀ (s : State) (v : Word) (ts : List Turn) (rest : List HostOp), HostTurn s (.write (offsetOf .irqen) v) ts rest →
    ∃ t, step s = .next t ∧ view t .irqen = v &&& 3 ∧
      t = { answered s ts rest (.write .okay) with doneIE := v.getLsbD 0, errIE := v.getLsbD 1 }) ∧
  ∀ s : State, (view s .irqen).getLsbD 0 = s.doneIE ∧ (view s .irqen).getLsbD 1 = s.errIE ∧ view s .irqen &&& 3 = view s .irqen

/-- 20 R62, for the input registers (the other addresses: R22, R24, R25, R52, R54, R55): a write while BUSY = 1 is refused with OVR
and its value dropped, else the register takes it. -/
def Obligations.InputWrite : Prop :=
  ∀ (s : State) (v : Word) (ts : List Turn) (rest : List HostOp),
    (∀ r, regClass r = .input → s.busy = true → HostTurn s (.write (offsetOf r) v) ts rest →
      step s = .next { answered s ts rest (.write .slverr) with ovr := true }) ∧
    (s.busy = false →
      (HostTurn s (.write (offsetOf .xin) v) ts rest → step s = .next { answered s ts rest (.write .okay) with xin := v }) ∧
      (∀ j, HostTurn s (.write (offsetOf (.key j)) v) ts rest →
        step s = .next { answered s ts rest (.write .okay) with key := s.key.set j v }) ∧
      (∀ c, HostTurn s (.write (offsetOf (.bin c)) v) ts rest →
        step s = .next { answered s ts rest (.write .okay) with bin := s.bin.set c v }) ∧
      ∀ j, HostTurn s (.write (offsetOf (.seg j)) v) ts rest →
        step s = .next { answered s ts rest (.write .okay) with seg := s.seg.set j v })

/-- 20 R63: no read has a side effect; a write to an input register, IRQEN or STATUS is idempotent; an accepted write to CMD is
not (each accepted write issues one command). -/
def Obligations.AccessesAndSideEffects : Prop :=
  (∀ (s : State) (a : Addr) (r : Reg), view (s.busRead a) r = view s r ∧ (s.busRead a).pend = s.pend) ∧
  (∀ (s : State) (a : Addr) (v : Word), regAt a ≠ some .cmd → (s.busWrite a v).busWrite a v = s.busWrite a v) ∧
  ∀ (s : State) (v : Word), s.busy = false → v ≠ 0x0000003F →
    (s.busWrite (offsetOf .cmd) v).busWrite (offsetOf .cmd) v ≠ s.busWrite (offsetOf .cmd) v

/-! ## Flags and the interrupt line -/

/-- 10 R23, R26: where each field of STATUS and INFO reads; the reserved bits read 0. -/
def Obligations.StatusAndInfoFields : Prop := ∀ s : State, PackedFields s

/-- 60 R165: the interrupt line as a function of the STATUS and IRQEN the host reads, while rst_n is high; 70 R185: it is 0 while
rst_n is low. -/
def Obligations.InterruptLine : Prop :=
  ∀ s : State,
    (s.rstN = true → s.irq =
      (((view s .status).getLsbD 1 && (view s .irqen).getLsbD 0) ||
        (((view s .status).getLsbD 2 || (view s .status).getLsbD 3) && (view s .irqen).getLsbD 1))) ∧
    (s.rstN = false → s.irq = false)

/-! ## Completion and errors -/

/-- 60 R161: the completion step, enabled exactly when BUSY = 1, runs the rule of the word in PEND and makes the completion
update in the same step. -/
def Obligations.CompletionUpdate : Prop :=
  ∀ s : State, s.rstN = true →
    (s.busy = false → engineStep s = .next s) ∧
    ∀ w, s.pend = some w → w ≠ 0x0000003F →
      ∃ t, engineStep s = .next t ∧ t.busy = false ∧ t.pend = none ∧ t.seq = .start ∧ t.done = true ∧
        t.lastop = opField w ∧ t.err = decide (t.ecode ≠ .none) ∧
        (∀ i, decode w = .ok i → exec i s = .next t) ∧
        ∀ e, decode w = .error e → t = failure (opField w) (decodeErrorCode e) s

/-- 60 R160, R162: the code a command completes with is the first error in the order of R162, by the causes of R160; LASTOP and the
CMD word record the failed command. -/
def Obligations.FirstErrorIsReported : Prop :=
  ∀ (s : State) (w : Word), s.rstN = true → s.pend = some w → w ≠ 0x0000003F →
    ∃ t, engineStep s = .next t ∧ ((view t .status).extractLsb' 8 4).toNat = firstError w ∧
      ((view t .status).getLsbD 2 = true ↔ firstError w ≠ 0) ∧
      (view t .status).extractLsb' 24 8 = opField w ∧ view t .cmd = view s .cmd

/-- 60 R163: a command that completes with an error changes no state except the completion update. -/
def Obligations.FailedCommandChangesOnlyStatus : Prop :=
  ∀ (s t : State) (w : Word), s.rstN = true → s.pend = some w → w ≠ 0x0000003F →
    engineStep s = .next t → t.ecode ≠ .none → t = failure (opField w) t.ecode s

/-! ## The commands -/

/-- 43 R150: NOP: the completion update only. -/
def Obligations.NopCompletes : Prop :=
  (∀ s : State, exec .nop s = .next (success 0x00 s)) ∧ BareCommand 0x00 .nop ∧ encode .nop = 0x00000000 ∧
    ∃ t, exec .nop State.reset = .next t ∧ view t .status = 0x00000002

/-- 40 R100: GFMUL: RESULT is the product, zero-extended; its encoding; its corner cases. -/
def Obligations.GfmulCompletes : Prop :=
  (∀ (a b : Byte) (s : State),
    exec (.gfmul a b) s = .next (success 0x01 { s with result := (gfmul a b).setWidth 32 })) ∧
  TwoFieldCommand 0x01 .gfmul ∧
  (∀ a b : Byte, gfmul 0 b = 0 ∧ gfmul a 0 = 0 ∧ gfmul a 1 = a ∧ gfmul 1 b = b ∧ gfmul a b = gfmul b a) ∧
  (∀ a : Byte, a ≠ 0 → ∃ b, gfmul a b = 1) ∧
  gfmul 0x80 0x02 = 0x1B ∧ gfmul 0xFF 0xFF = 0x13 ∧ gfmul 0x53 0xCA = 0x01 ∧ gfmul 0x57 0x83 = 0xC1

/-- 40 R101, R102: SBOX and INVSBOX: RESULT is the table's byte, zero-extended; their encodings. What the tables hold:
SboxTablesAndRoundConstants. -/
def Obligations.SboxAndInvsboxComplete : Prop :=
  (∀ (x : Byte) (s : State), exec (.sbox x) s = .next (success 0x02 { s with result := (sbox x).setWidth 32 })) ∧
  OneFieldCommand 0x02 .sbox ∧
  (∀ (y : Byte) (s : State), exec (.invsbox y) s = .next (success 0x03 { s with result := (invSbox y).setWidth 32 })) ∧
  OneFieldCommand 0x03 .invsbox

/-- 40 R103: RCON: RESULT is RC(i) in the top byte; RCON 0 completes with E_OPERAND. -/
def Obligations.RconCompletes : Prop :=
  (∀ (i : Byte) (s : State), i ≠ 0 →
    exec (.rcon i) s = .next (success 0x04 { s with result := (rc i.toNat).setWidth 32 <<< 24 })) ∧
  (∀ s : State, exec (.rcon 0) s = .next (failure 0x04 .operand s)) ∧
  OneFieldCommand 0x04 .rcon

/-- 40 R104: MIXCOL: RESULT is M times the column in XIN; columns of equal bytes are fixed; the map is linear (an inference of
the spec's own, from R93 and R97). -/
def Obligations.MixcolCompletes : Prop :=
  (∀ s : State, exec .mixcol s = .next (success 0x05 { s with result := packWord (mixcol (bytesOf s.xin)) })) ∧
  BareCommand 0x05 .mixcol ∧ encode .mixcol = 0x00000005 ∧
  (∀ b : Byte, mixcol ⟨b, b, b, b⟩ = ⟨b, b, b, b⟩) ∧ mixcol ⟨0, 0, 0, 0⟩ = ⟨0, 0, 0, 0⟩ ∧
  (∀ c d : Column, mixcol (xorColumn c d) = xorColumn (mixcol c) (mixcol d)) ∧
  packWord (mixcol (bytesOf 0xDB135345)) = 0x8E4DA1BC

/-- 40 R105: INVMIXCOL: RESULT is M inverse times the column in XIN; it undoes MIXCOL; columns of equal bytes are fixed. -/
def Obligations.InvmixcolCompletes : Prop :=
  (∀ s : State, exec .invmixcol s = .next (success 0x06 { s with result := packWord (invmixcol (bytesOf s.xin)) })) ∧
  BareCommand 0x06 .invmixcol ∧ encode .invmixcol = 0x00000006 ∧
  (∀ b : Byte, invmixcol ⟨b, b, b, b⟩ = ⟨b, b, b, b⟩) ∧
  (∀ c : Column, invmixcol (mixcol c) = c) ∧
  packWord (invmixcol (bytesOf 0xDB135345)) = 0x32A41D55 ∧ packWord (invmixcol (bytesOf 0x8E4DA1BC)) = 0xDB135345

/-- 41 R116: EXPAND: the schedule and its length, the words beyond it 0; E_KEYLEN, then E_ROUNDS; a key of 8 words expanded for one
round is itself. -/
def Obligations.ExpandCompletes : Prop :=
  (∀ (klen rounds : Byte) (s : State), KeyLength klen → 1 ≤ rounds.toNat → rounds.toNat ≤ 14 →
    exec (.expand klen rounds) s = .next (success 0x10 { s with
      sched := bankOf 60 (expand (keyOf s klen) rounds.toNat)
      schedLen := BitVec.ofNat 8 (4 * (rounds.toNat + 1)) }) ∧
    (expand (keyOf s klen) rounds.toNat).length = 4 * (rounds.toNat + 1)) ∧
  (∀ (klen rounds : Byte) (s : State), ¬ KeyLength klen →
    exec (.expand klen rounds) s = .next (failure 0x10 .keylen s)) ∧
  (∀ (klen rounds : Byte) (s : State), KeyLength klen → rounds.toNat < 1 ∨ 14 < rounds.toNat →
    exec (.expand klen rounds) s = .next (failure 0x10 .rounds s)) ∧
  TwoFieldCommand 0x10 .expand ∧
  ∀ k : List Word, k.length = 8 → expand k 1 = k

/-- 41 R117: DERIVE: the reconstructed array, the key it begins with and their lengths; E_SEGLEN, then E_OFFSET; at offset 0 the key
is the segment. -/
def Obligations.DeriveCompletes : Prop :=
  (∀ (nk off : Byte) (s : State), nk = 4 ∨ nk = 6 ∨ nk = 8 → off.toNat + nk.toNat ≤ 60 →
    exec (.derive nk off) s = .next (success 0x11 { s with
      sched := bankOf 60 (derive (segOf s nk) off.toNat)
      schedLen := BitVec.ofNat 8 (off.toNat + nk.toNat)
      kout := bankOf 8 ((derive (segOf s nk) off.toNat).take nk.toNat)
      koLen := BitVec.ofNat 8 (4 * nk.toNat) }) ∧
    (derive (segOf s nk) off.toNat).length = off.toNat + nk.toNat) ∧
  (∀ (nk off : Byte) (s : State), ¬ (nk = 4 ∨ nk = 6 ∨ nk = 8) →
    exec (.derive nk off) s = .next (failure 0x11 .seglen s)) ∧
  (∀ (nk off : Byte) (s : State), nk = 4 ∨ nk = 6 ∨ nk = 8 → 60 < off.toNat + nk.toNat →
    exec (.derive nk off) s = .next (failure 0x11 .offset s)) ∧
  TwoFieldCommand 0x11 .derive ∧
  ∀ seg : List Word, derive seg 0 = seg

/-- 42 R135, R136: ENC and DEC: BOUT, SCHED and SCHEDLEN from the cipher or its inverse, the trace invalidated; E_BLKLEN, then
E_KEYLEN. -/
def Obligations.EncAndDecComplete : Prop :=
  (∀ (klen : Byte) (s : State), KeyLength klen →
    ∃ words, exec (.enc klen 16) s = .next (success 0x20 (noTrace (cipherWrites s klen (encRun s klen)) words))) ∧
  (∀ (klen : Byte) (s : State), KeyLength klen →
    ∃ words, exec (.dec klen 16) s = .next (success 0x21 (noTrace (cipherWrites s klen (decRun s klen)) words))) ∧
  CipherChecks 0x20 .enc ∧ CipherChecks 0x21 .dec ∧ TwoFieldCommand 0x20 .enc ∧ TwoFieldCommand 0x21 .dec

/-- 42 R137, R138: ENCT and DECT: what ENC and DEC write, and the trace written and valid; on an error the previous trace stays. -/
def Obligations.EnctAndDectComplete : Prop :=
  (∀ (klen : Byte) (s : State), KeyLength klen →
    exec (.enct klen 16) s =
      .next (success 0x22 (withTrace (cipherWrites s klen (encRun s klen)) klen .encrypt (encRun s klen)))) ∧
  (∀ (klen : Byte) (s : State), KeyLength klen →
    exec (.dect klen 16) s =
      .next (success 0x23 (withTrace (cipherWrites s klen (decRun s klen)) klen .decrypt (decRun s klen)))) ∧
  CipherChecks 0x22 .enct ∧ CipherChecks 0x23 .dect ∧ TwoFieldCommand 0x22 .enct ∧ TwoFieldCommand 0x23 .dect

/-- 43 R151: SRST: the command in flight abandoned, every piece of state at its reset value, OKAY; DONE is not set and LASTOP is
not 0x3F. It has no completion step: its write to CMD performs it, busy or not. The model's fields outside the engine stay. -/
def Obligations.SrstResetsEverything : Prop :=
  (∀ s : State, ∃ t, exec .srst s = .next t ∧ t.busy = false ∧ t.rsp = some (.write .okay) ∧ view t .status = 0 ∧
    (∀ r, view t r = view State.reset r) ∧ t.seq = .start ∧ t.irq = false ∧
    t = { State.reset with rstN := s.rstN, host := s.host, turns := s.turns, draws := s.draws, rsp := some (.write .okay) }) ∧
  (∀ (s : State) (ts : List Turn) (rest : List HostOp), HostTurn s (.write (offsetOf .cmd) 0x0000003F) ts rest →
    step s = exec .srst { s with turns := ts, host := rest }) ∧
  encode .srst = 0x0000003F

/-! ## Frames -/

/-- A GF command or NOP leaves every register but RESULT (NOP: RESULT too) and STATUS reading as before, and OVR, TV and the world
outside as they were (10 R27, 40, 43 R150). -/
def Obligations.GfAndNopFrame : Prop :=
  ∀ (i : Instr) (s t : State), gfCommand i = true ∨ i = .nop → exec i s = .next t →
    (∀ r, r ≠ .status → r ≠ .result → view t r = view s r) ∧ (i = .nop → view t .result = view s .result) ∧
    t.ovr = s.ovr ∧ t.tv = s.tv ∧ SameOutside s t

/-- EXPAND and DERIVE leave every register but SCHED, INFO, STATUS (and KOUT for DERIVE) reading as before, KOLEN for EXPAND, and
TNUM, TDIR, TV, OVR and the world outside as they were (41 R116, R117). -/
def Obligations.KeyCommandFrame : Prop :=
  ∀ (i : Instr) (s t : State), keyCommand i = true → exec i s = .next t →
    (∀ r, r ≠ .status → r ≠ .info → ¬ IsSched r → ¬ IsKout r → view t r = view s r) ∧
    ((∃ k n, i = .expand k n) → t.koLen = s.koLen ∧ ∀ j, view t (.kout j) = view s (.kout j)) ∧
    t.tnum = s.tnum ∧ t.tdir = s.tdir ∧ t.ovr = s.ovr ∧ t.tv = s.tv ∧ SameOutside s t

/-- A block command leaves every register but BOUT, SCHED, INFO, STATUS and TRACE reading as before, and KOLEN, OVR and the world
outside as they were; after a successful ENC or DEC every trace word reads 0 (42 R135 to R138, 10 R38). -/
def Obligations.BlockCommandFrame : Prop :=
  ∀ (i : Instr) (s t : State), blockCommand i = true → exec i s = .next t →
    (∀ r, r ≠ .status → r ≠ .info → ¬ IsSched r → ¬ IsBout r → ¬ IsTrace r → view t r = view s r) ∧
    (tracedCommand i = false → t.ecode = .none → ∀ e w, view t (.trace e w) = 0) ∧
    t.koLen = s.koLen ∧ t.ovr = s.ovr ∧ SameOutside s t

/-! ## The algorithms -/

/-- 40 R90 to R93, R98: the laws of the field and of the matrices, which leave one product only: doubling by R91, commutative,
associative, distributive, with inverses; the four rows of each matrix; MixColumns of a column is linear and the two matrices
undo each other. -/
def Obligations.FieldAndMatrixLaws : Prop :=
  (∀ a b : Byte, gfmul a b = gfmul b a) ∧ (∀ a : Byte, gfmul a 1 = a ∧ gfmul a 0 = 0) ∧
  (∀ a : Byte, gfmul a 2 = (a <<< 1) ^^^ (if a.getLsbD 7 then 0x1B else 0x00)) ∧
  (∀ a b c : Byte, gfmul (gfmul a b) c = gfmul a (gfmul b c)) ∧
  (∀ a b c : Byte, gfmul a (b ^^^ c) = gfmul a b ^^^ gfmul a c) ∧
  (∀ a : Byte, a ≠ 0 → ∃ b, gfmul a b = 1 ∧ ∀ b', gfmul a b' = 1 → b' = b) ∧
  (∀ c0 c1 c2 c3 : Byte, mixcol ⟨c0, c1, c2, c3⟩ =
    ⟨gfmul 0x02 c0 ^^^ gfmul 0x03 c1 ^^^ c2 ^^^ c3, c0 ^^^ gfmul 0x02 c1 ^^^ gfmul 0x03 c2 ^^^ c3,
     c0 ^^^ c1 ^^^ gfmul 0x02 c2 ^^^ gfmul 0x03 c3, gfmul 0x03 c0 ^^^ c1 ^^^ c2 ^^^ gfmul 0x02 c3⟩) ∧
  (∀ c0 c1 c2 c3 : Byte, invmixcol ⟨c0, c1, c2, c3⟩ =
    ⟨gfmul 0x0e c0 ^^^ gfmul 0x0b c1 ^^^ gfmul 0x0d c2 ^^^ gfmul 0x09 c3,
     gfmul 0x09 c0 ^^^ gfmul 0x0e c1 ^^^ gfmul 0x0b c2 ^^^ gfmul 0x0d c3,
     gfmul 0x0d c0 ^^^ gfmul 0x09 c1 ^^^ gfmul 0x0e c2 ^^^ gfmul 0x0b c3,
     gfmul 0x0b c0 ^^^ gfmul 0x0d c1 ^^^ gfmul 0x09 c2 ^^^ gfmul 0x0e c3⟩) ∧
  (∀ c d : Column, xorColumn c d = ⟨c.a0 ^^^ d.a0, c.a1 ^^^ d.a1, c.a2 ^^^ d.a2, c.a3 ^^^ d.a3⟩ ∧
    mixcol (xorColumn c d) = xorColumn (mixcol c) (mixcol d)) ∧
  ∀ c : Column, invmixcol (mixcol c) = c ∧ mixcol (invmixcol c) = c

/-- 40 R94 to R96, from general knowledge there (log 7): the S-box table is the affine map of the inverse, the tables are mutually
inverse, S has no fixed point; the round constants are the powers of 02, with period 51. -/
def Obligations.SboxTablesAndRoundConstants : Prop :=
  sbox 0 = 0x63 ∧ (∀ x y : Byte, gfmul x y = 1 → sbox x = affine y) ∧
  (∀ x : Byte, invSbox (sbox x) = x ∧ sbox (invSbox x) = x ∧ sbox x ≠ x) ∧
  sbox 0x53 = 0xED ∧ sbox 0xFF = 0x16 ∧ invSbox 0x00 = 0x52 ∧ invSbox 0xFF = 0x7D ∧
  rc 1 = 0x01 ∧ (∀ i, 1 ≤ i → rc (i + 1) = gfmul 0x02 (rc i)) ∧ (∀ i, 1 ≤ i → rc (i + 51) = rc i) ∧
  rc 9 = 0x1B ∧ rc 10 = 0x36 ∧ rc 14 = 0x4D ∧ rc 51 = 0x8D ∧ rc 255 = 0x8D

/-- 42 R125 to R129: the transforms of a round on the 16 bytes of a block: S or Si on each, the rotation of the rows with the
rules' examples, the matrices on each column, the key-XOR byte by byte with words 4r to 4r+3 of the schedule (41 R110). Which
bytes those are: byte 4c + r is row r of column c (00 R8), the first of a word in bits 31:24 (20 R56, R57). -/
def Obligations.RoundTransforms : Prop :=
  (∀ (s : Block) (k : Nat), k < 16 →
    byteOf (subBytes s) k = sbox (byteOf s k) ∧ byteOf (invSubBytes s) k = invSbox (byteOf s k)) ∧
  (∀ (s : Block) (c : Fin 4),
    colOf (mixColumns s) c = mixcol (colOf s c) ∧ colOf (invMixColumns s) c = invmixcol (colOf s c)) ∧
  (∀ (x y : Block) (k : Nat), k < 16 → byteOf (xorBlock x y) k = byteOf x k ^^^ byteOf y k) ∧
  (∀ (w : List Word) (r : Nat) (s : Block), addRoundKey w r s = xorBlock s (roundKey w r)) ∧
  (∀ (w : List Word) (r j : Nat) (c : Fin 4), 4 * r + 3 < w.length → j < 4 →
    byteOf (roundKey w r) (4 * c.val + j) = (w.getD (4 * r + c.val) 0).extractLsb' (24 - 8 * j) 8) ∧
  (∀ b : Block, (List.range 16).map (byteOf b) =
    [b.c0.a0, b.c0.a1, b.c0.a2, b.c0.a3, b.c1.a0, b.c1.a1, b.c1.a2, b.c1.a3,
     b.c2.a0, b.c2.a1, b.c2.a2, b.c2.a3, b.c3.a0, b.c3.a1, b.c3.a2, b.c3.a3] ∧
    [colOf b 0, colOf b 1, colOf b 2, colOf b 3] = [b.c0, b.c1, b.c2, b.c3]) ∧
  (∀ (b : Block) (x : Vector Word 4) (c : Fin 4) (j : Nat), j < 4 →
    (blockToBank b)[c].extractLsb' (24 - 8 * j) 8 = byteOf b (4 * c.val + j) ∧
    byteOf (bankToBlock x) (4 * c.val + j) = x[c].extractLsb' (24 - 8 * j) 8) ∧
  (∀ (s : Block) (r c : Nat), r < 4 → c < 4 →
    byteOf (shiftRows s) (4 * c + r) = byteOf s (4 * ((c + r) % 4) + r) ∧
    byteOf (invShiftRows s) (4 * ((c + r) % 4) + r) = byteOf s (4 * c + r)) ∧
  blockToBank (shiftRows (bankToBlock #v[0x00010203, 0x04050607, 0x08090a0b, 0x0c0d0e0f])) =
    #v[0x00050a0f, 0x04090e03, 0x080d0207, 0x0c01060b] ∧
  blockToBank (invShiftRows (bankToBlock #v[0x00010203, 0x04050607, 0x08090a0b, 0x0c0d0e0f])) =
    #v[0x000d0a07, 0x04010e0b, 0x0805020f, 0x0c090603]

/-- 41 R113: forward expansion: its length, the key in front and the recurrence; and 41 R112, R111: the three cases of its
function f. The rotation, the order inside the first case and the index of RC are passages from general knowledge (log 7). -/
def Obligations.ExpandRecurrence : Prop :=
  (∀ (p : Word) (i nk : Nat),
    (i % nk = 0 → schedF p i nk = packWord
      ⟨sbox (bytesOf p).a1 ^^^ rc (i / nk), sbox (bytesOf p).a2, sbox (bytesOf p).a3, sbox (bytesOf p).a0⟩) ∧
    (i % nk ≠ 0 → 6 < nk → i % nk = 4 → schedF p i nk = packWord
      ⟨sbox (bytesOf p).a0, sbox (bytesOf p).a1, sbox (bytesOf p).a2, sbox (bytesOf p).a3⟩) ∧
    (i % nk ≠ 0 → ¬ (6 < nk ∧ i % nk = 4) → schedF p i nk = p)) ∧
  ∀ (k : List Word) (rounds : Nat), k.length = 4 ∨ k.length = 6 ∨ k.length = 8 → 1 ≤ rounds →
    (expand k rounds).length = 4 * (rounds + 1) ∧ (expand k rounds).take k.length = k ∧
    ∀ i, k.length ≤ i → i < 4 * (rounds + 1) →
      (expand k rounds).getD i 0 =
        (expand k rounds).getD (i - k.length) 0 ^^^ schedF ((expand k rounds).getD (i - 1) 0) i k.length

/-- 41 R114: backward derivation: its length, the segment on top, the recurrence read backward; at offset 0 the segment itself. -/
def Obligations.DeriveRecurrence : Prop :=
  ∀ (seg : List Word) (off : Nat), seg.length = 4 ∨ seg.length = 6 ∨ seg.length = 8 →
    (derive seg off).length = off + seg.length ∧ (derive seg off).drop off = seg ∧
    ∀ i, seg.length ≤ i → i < off + seg.length →
      (derive seg off).getD (i - seg.length) 0 =
        (derive seg off).getD i 0 ^^^ schedF ((derive seg off).getD (i - 1) 0) i seg.length

/-- 41 R115: derivation inverts expansion, for every key, round count and offset; and a schedule word does not depend on the
round count (41 R113). -/
def Obligations.DeriveInvertsExpand : Prop :=
  (∀ (k : List Word) (rounds more : Nat), k.length = 4 ∨ k.length = 6 ∨ k.length = 8 → 1 ≤ rounds →
    (expand k (rounds + more)).take (4 * (rounds + 1)) = expand k rounds) ∧
  ∀ (k : List Word) (rounds off : Nat), k.length = 4 ∨ k.length = 6 ∨ k.length = 8 →
    off + k.length ≤ 4 * (rounds + 1) →
    (derive (((expand k rounds).drop off).take k.length) off).take k.length = k ∧
    derive (((expand k rounds).drop off).take k.length) off = (expand k rounds).take (off + k.length)

/-- 42 R130: the cipher, round by round, with the snapshots it records, and the stages its sequencer steps through. That SEQ
stands at the first of them from the command's acceptance, and that a stage turn moves it on, for every command, is deduced
(log 4). -/
def Obligations.CipherRounds : Prop :=
  (∀ (p : Block) (k : List Word) (nr : Nat), 1 ≤ nr →
    (encrypt p k nr).sched = expand k nr ∧ (encrypt p k nr).trace.length = nr + 1 ∧
    (encrypt p k nr).trace[0]? = some
      { round := 0, kind := .initial, input := some p, rkey := roundKey (expand k nr) 0,
        keyed := xorBlock p (roundKey (expand k nr) 0), sub := none, shift := none, mix := none } ∧
    (∀ (r : Nat) (e : Snapshot), 1 ≤ r → r < nr → (encrypt p k nr).trace[r - 1]? = some e →
      (encrypt p k nr).trace[r]? = some
        { round := r, kind := .interior, input := none, rkey := roundKey (expand k nr) r,
          keyed := xorBlock (mixColumns (shiftRows (subBytes e.keyed))) (roundKey (expand k nr) r),
          sub := some (subBytes e.keyed), shift := some (shiftRows (subBytes e.keyed)),
          mix := some (mixColumns (shiftRows (subBytes e.keyed))) }) ∧
    (∀ e : Snapshot, (encrypt p k nr).trace[nr - 1]? = some e →
      (encrypt p k nr).trace[nr]? = some
        { round := nr, kind := .final, input := none, rkey := roundKey (expand k nr) nr,
          keyed := xorBlock (shiftRows (subBytes e.keyed)) (roundKey (expand k nr) nr),
          sub := some (subBytes e.keyed), shift := some (shiftRows (subBytes e.keyed)), mix := none }) ∧
    ∀ e : Snapshot, (encrypt p k nr).trace[nr]? = some e → (encrypt p k nr).result = e.keyed) ∧
  ∀ (klen : Byte) (n : Nat), KeyLength klen →
    (stagesAfter (.enc klen 16) n = (if n ≤ nrOf klen then .round n else .done) ∧
      stagesAfter (.enct klen 16) n = (if n ≤ nrOf klen then .round n else .done)) ∧
    ∀ i : Instr, SequencerFollows i ∧
      (blockCommand i = false → firstStage i = .start ∧ nextStage i .start = .start)

/-- 42 R131: the inverse cipher, round by round in processing order, with the snapshots it records, and the stages its sequencer
steps through. That SEQ stands at the first of them from the command's acceptance, and that a stage turn moves it on, is deduced
(log 4). -/
def Obligations.InverseCipherRounds : Prop :=
  (∀ (c : Block) (k : List Word) (nr : Nat), 1 ≤ nr →
    (decrypt c k nr).sched = expand k nr ∧ (decrypt c k nr).trace.length = nr + 1 ∧
    (decrypt c k nr).trace[0]? = some
      { round := nr, kind := .final, input := some c, rkey := roundKey (expand k nr) nr,
        keyed := xorBlock c (roundKey (expand k nr) nr),
        shift := some (invShiftRows (xorBlock c (roundKey (expand k nr) nr))),
        sub := some (invSubBytes (invShiftRows (xorBlock c (roundKey (expand k nr) nr)))), mix := none } ∧
    (∀ (e : Nat) (d : Snapshot) (x : Block), 1 ≤ e → e < nr → (decrypt c k nr).trace[e - 1]? = some d → d.sub = some x →
      (decrypt c k nr).trace[e]? = some
        { round := nr - e, kind := .interior, input := none, rkey := roundKey (expand k nr) (nr - e),
          keyed := xorBlock x (roundKey (expand k nr) (nr - e)),
          mix := some (invMixColumns (xorBlock x (roundKey (expand k nr) (nr - e)))),
          shift := some (invShiftRows (invMixColumns (xorBlock x (roundKey (expand k nr) (nr - e))))),
          sub := some (invSubBytes (invShiftRows (invMixColumns (xorBlock x (roundKey (expand k nr) (nr - e)))))) }) ∧
    (∀ (d : Snapshot) (x : Block), (decrypt c k nr).trace[nr - 1]? = some d → d.sub = some x →
      (decrypt c k nr).trace[nr]? = some
        { round := 0, kind := .initial, input := none, rkey := roundKey (expand k nr) 0,
          keyed := xorBlock x (roundKey (expand k nr) 0), sub := none, shift := none, mix := none }) ∧
    ∀ d : Snapshot, (decrypt c k nr).trace[nr]? = some d → (decrypt c k nr).result = d.keyed) ∧
  ∀ (klen : Byte) (n : Nat), KeyLength klen →
    (stagesAfter (.dec klen 16) n = (if n ≤ nrOf klen then .round (nrOf klen - n) else .done) ∧
      stagesAfter (.dect klen 16) n = (if n ≤ nrOf klen then .round (nrOf klen - n) else .done)) ∧
    SequencerFollows (.dec klen 16) ∧ SequencerFollows (.dect klen 16)

/-- 42 R134: the inverse cipher inverts the cipher and the cipher inverts it, as functions and as commands: DEC of the BOUT of
an ENC under the same key gives the block back, and ENC of the BOUT of a DEC. -/
def Obligations.DecryptInvertsEncrypt : Prop :=
  (∀ (b : Block) (k : List Word) (nr : Nat), 1 ≤ nr →
    (decrypt (encrypt b k nr).result k nr).result = b ∧ (encrypt (decrypt b k nr).result k nr).result = b) ∧
  ∀ (klen : Byte) (s : State), KeyLength klen →
    (∃ t u, exec (.enc klen 16) s = .next t ∧ exec (.dec klen 16) { t with bin := t.bout } = .next u ∧ u.bout = s.bin) ∧
    ∃ t u, exec (.dec klen 16) s = .next t ∧ exec (.enc klen 16) { t with bin := t.bout } = .next u ∧ u.bout = s.bin

/-- 42 R133: for C = encrypt(P, K) the trace of the decryption of C mirrors the trace of the encryption of P, round by round. -/
def Obligations.DecryptTraceMirrorsEncrypt : Prop :=
  ∀ (p : Block) (k : List Word) (nr r : Nat) (e e' d : Snapshot), 1 ≤ r → r ≤ nr →
    (encrypt p k nr).trace[r]? = some e → (encrypt p k nr).trace[r - 1]? = some e' →
    (decrypt (encrypt p k nr).result k nr).trace[nr - r]? = some d →
    d.round = r ∧ d.rkey = e.rkey ∧ d.sub = some e'.keyed ∧ d.shift = e.sub ∧
    (r < nr → d.mix = e.shift ∧ some d.keyed = e.mix) ∧ (r = nr → some d.keyed = e.shift)

/-- The known answers of the source's §8 (95 V1 to V3), which rest on the tables of log 7: the three key sizes, both ways. -/
def Obligations.KnownAnswers : Prop :=
  ∀ s : State, s.key = #v[0x00010203, 0x04050607, 0x08090a0b, 0x0c0d0e0f, 0x10111213, 0x14151617, 0x18191a1b, 0x1c1d1e1f] →
    (s.bin = #v[0x00112233, 0x44556677, 0x8899aabb, 0xccddeeff] →
      (∃ t, exec (.enc 16 16) s = .next t ∧ t.bout = #v[0x69c4e0d8, 0x6a7b0430, 0xd8cdb780, 0x70b4c55a]) ∧
      (∃ t, exec (.enc 24 16) s = .next t ∧ t.bout = #v[0xdda97ca4, 0x864cdfe0, 0x6eaf70a0, 0xec0d7191]) ∧
      ∃ t, exec (.enc 32 16) s = .next t ∧ t.bout = #v[0x8ea2b7ca, 0x516745bf, 0xeafc4990, 0x4b496089]) ∧
    (s.bin = #v[0x69c4e0d8, 0x6a7b0430, 0xd8cdb780, 0x70b4c55a] →
      ∃ t, exec (.dec 16 16) s = .next t ∧ t.bout = #v[0x00112233, 0x44556677, 0x8899aabb, 0xccddeeff]) ∧
    (s.bin = #v[0xdda97ca4, 0x864cdfe0, 0x6eaf70a0, 0xec0d7191] →
      ∃ t, exec (.dec 24 16) s = .next t ∧ t.bout = #v[0x00112233, 0x44556677, 0x8899aabb, 0xccddeeff]) ∧
    (s.bin = #v[0x8ea2b7ca, 0x516745bf, 0xeafc4990, 0x4b496089] →
      ∃ t, exec (.dec 32 16) s = .next t ∧ t.bout = #v[0x00112233, 0x44556677, 0x8899aabb, 0xccddeeff])

/-! ## The trace -/

/-- 42 R139: the words of an entry: the descriptor by its fields, three 0 words, the present fields word by word, 0 for the absent
ones; entries without a snapshot are 0. -/
def Obligations.TraceEntryWords : Prop :=
  ∀ (d : Dir) (t : List Snapshot) (e : Fin 15),
    (∀ snap, t[e.val]? = some snap → snap.round ≤ 15 →
      (traceWords d t)[e][0].toNat = snap.round + 16 * kindCode snap.kind + 256 * dirCode d +
        ([1, 2, 3, 4, 5, 6].map fun slot => if (snapshotField snap slot).isSome then 2 ^ (16 + slot) else 0).sum) ∧
    (∀ snap, t[e.val]? = some snap → (traceWords d t)[e][1] = 0 ∧ (traceWords d t)[e][2] = 0 ∧ (traceWords d t)[e][3] = 0) ∧
    (∀ snap (slot : Fin 8) (c : Fin 4), t[e.val]? = some snap → 1 ≤ slot.val →
      (∀ b, snapshotField snap slot.val = some b → (traceWords d t)[e][Fin.ofNat 32 (4 * slot.val + c.val)] = blockWord b c) ∧
      (snapshotField snap slot.val = none → (traceWords d t)[e][Fin.ofNat 32 (4 * slot.val + c.val)] = 0)) ∧
    (t[e.val]? = none → ∀ i : Fin 32, (traceWords d t)[e][i] = 0)

/-- 10 R38: what the host reads from a recorded trace is the snapshots' fields, 0 where a field is absent, an entry is unused or the
trace is invalid. -/
def Obligations.RecordedTraceReadsBack : Prop :=
  (∀ (s : State) (d : Dir) (t : List Snapshot) (e : Fin 15) (slot : Fin 8) (c : Fin 4),
    t.length ≤ 15 → (∀ snap ∈ t, snap.round ≤ 14) → 1 ≤ slot.val →
    view (s.recordTrace d t) (.trace e (Fin.ofNat 32 (4 * slot.val + c.val))) =
      ((t[e.val]?.bind fun snap => snapshotField snap slot.val).elim 0 fun b => blockWord b c)) ∧
  (∀ (s : State) (d : Dir) (t : List Snapshot) (e : Fin 15),
    t.length ≤ 15 → (∀ snap ∈ t, snap.round ≤ 14) →
    view (s.recordTrace d t) (.trace e 0) = (t[e.val]?.elim 0 fun snap => descriptorWord d snap) ∧
    view (s.recordTrace d t) (.trace e 1) = 0 ∧ view (s.recordTrace d t) (.trace e 2) = 0 ∧
    view (s.recordTrace d t) (.trace e 3) = 0) ∧
  ∀ (s : State) (e : Fin 15) (w : Fin 32), s.tv = false → view s (.trace e w) = 0

/-- 42 R132: the trace ENCT leaves: TNUM = Nr + 1, the descriptor of every entry, the unused entries 0, and the KEYED field of
entry Nr equal to the ciphertext. -/
def Obligations.EncryptTraceShape : Prop :=
  ∀ (klen : Byte) (s : State), KeyLength klen →
    ∃ t, exec (.enct klen 16) s = .next t ∧ t.tnum.toNat = nrOf klen + 1 ∧
      (∀ e : Fin 15, view t (.trace e 0) =
        if e.val = 0 then 0x000E0010
        else if e.val < nrOf klen then 0x007C0020 ||| BitVec.ofNat 32 e.val
        else if e.val = nrOf klen then 0x003C0030 ||| BitVec.ofNat 32 (nrOf klen)
        else 0) ∧
      (∀ (e : Fin 15) (w : Fin 32), nrOf klen < e.val → view t (.trace e w) = 0) ∧
      ∀ (e : Fin 15) (c : Fin 4), e.val = nrOf klen → view t (.trace e (Fin.ofNat 32 (12 + c.val))) = view t (.bout c)

/-- 42 R133: the trace DECT leaves: TNUM = Nr + 1, the descriptor of every entry in processing order, the unused entries 0, and the
KEYED field of entry Nr equal to the plaintext. -/
def Obligations.DecryptTraceShape : Prop :=
  ∀ (klen : Byte) (s : State), KeyLength klen →
    ∃ t, exec (.dect klen 16) s = .next t ∧ t.tnum.toNat = nrOf klen + 1 ∧
      (∀ e : Fin 15, view t (.trace e 0) =
        if e.val = 0 then 0x003E0130 ||| BitVec.ofNat 32 (nrOf klen)
        else if e.val < nrOf klen then 0x007C0120 ||| BitVec.ofNat 32 (nrOf klen - e.val)
        else if e.val = nrOf klen then 0x000C0110
        else 0) ∧
      (∀ (e : Fin 15) (w : Fin 32), nrOf klen < e.val → view t (.trace e w) = 0) ∧
      ∀ (e : Fin 15) (c : Fin 4), e.val = nrOf klen → view t (.trace e (Fin.ofNat 32 (12 + c.val))) = view t (.bout c)

/-! ## The whole machine -/

/-- The reset values of 10 R42: every register reads 0 but ID; no command in flight, SEQ at Start, irq 0. -/
def Sys2Proof.Claims.HoldsResetValues (s : State) : Prop :=
  (∀ r : Reg, view s r = if r = .id then 0x41455331 else 0) ∧
  s.sched = Vector.replicate 60 0 ∧ s.trace = Vector.replicate 15 (Vector.replicate 32 0) ∧
  s.pend = none ∧ s.seq = .start ∧ s.irq = false

/-- 10 R42: what reset and SRST leave. -/
def Obligations.ResetValues : Prop :=
  Sys2Proof.Claims.HoldsResetValues State.reset ∧ ∀ s : State, ∃ t, exec .srst s = .next t ∧ Sys2Proof.Claims.HoldsResetValues t

/-- 70 R185, R196: the fall of rst_n abandons the command in flight; while it is low no step of the engine is enabled, neither
completion nor stage, no transaction is answered and irq is 0; when it rises every register holds its reset value. The model's
choices (log 8): the registers hold their reset values as soon as it falls, and a transaction that gets no response is consumed,
while a WAIT stays. That an engine or stage turn is then passed over is log 14. -/
def Obligations.ResetPin : Prop :=
  ∀ (s : State) (ts : List Turn),
    (s.turns = .pin false :: ts →
      step s = .next { State.reset with rstN := false, host := s.host, turns := ts, draws := s.draws }) ∧
    (s.turns = .pin true :: ts → s.rstN = false →
      step s = .next { State.reset with rstN := true, host := s.host, turns := ts, draws := s.draws }) ∧
    (s.rstN = false → s.turns = .engine :: ts ∨ s.turns = .stage :: ts → step s = .next { s with turns := ts }) ∧
    (s.rstN = false → s.turns = .host :: ts ∨ (s.turns = [] ∧ ts = []) →
      (s.host = [] → step s = .next { s with turns := ts }) ∧
      (∀ rest, s.host = .wait :: rest → step s = .next { s with turns := ts, rsp := none }) ∧
      ∀ op rest, s.host = op :: rest → op ≠ .wait → step s = .next { s with turns := ts, host := rest, rsp := none }) ∧
    (s.rstN = false → s.irq = false)

/-- 60 R167: the engine never stops: every step answers a next state. -/
def Obligations.EveryStepGoesOn : Prop := ∀ s : State, GoesOn s

/-- Every step keeps a legal state legal (10 R22, R23, R26, R33, R34, R39, 70 R185): PEND is CMD, the flags of a busy engine are
clear, SCHEDLEN, KOLEN and TNUM are in range and the RAM is 0 beyond them, SEQ is Start when idle. That the registers hold their reset
values all the while rst_n is low is the model's choice (log 8), SEQ's moves are log 4. -/
def Obligations.StepKeepsLegal : Prop := ∀ s t : State, Legal s → step s = .next t → Legal t

/-- The state after reset is legal. -/
def Obligations.ResetIsLegal : Prop := Legal State.reset

/-- 20 R67, 10 R20: while a command stays in flight, no step changes the accepted command, its operands or any output; so its
completion reads the operand values that held when it was accepted. -/
def Obligations.InFlightCommandIsFrozen : Prop :=
  ∀ s t : State, s.busy = true → step s = .next t → t.busy = true →
    t.pend = s.pend ∧ t.cmd = s.cmd ∧ SameInputs s t ∧ t.result = s.result ∧ t.bout = s.bout ∧ t.kout = s.kout ∧
    t.sched = s.sched ∧ t.trace = s.trace ∧ view t .info = view s .info

/-- 10 R20, R26 to R33: a read-only register changes only at a completion, SRST or reset, and an input register only at the
host's accepted write to it, SRST or reset. PEND is never the SRST word: StepKeepsLegal. -/
def Obligations.RegistersChangeOnlyThere : Prop :=
  ∀ (s t : State) (r : Reg), s.pend ≠ some 0x0000003F → step s = .next t → view t r ≠ view s r →
    (readOnly r = true →
      (s.busy = true ∧ t.busy = false ∧ s.rstN = true ∧ (s.turns = [] ∨ ∃ ts, s.turns = .engine :: ts)) ∨
      (HostMoves s ∧ ∃ rest, s.host = .write (offsetOf .cmd) 0x0000003F :: rest) ∨ ∃ level ts, s.turns = .pin level :: ts) ∧
    (regClass r = .input →
      (HostMoves s ∧ s.busy = false ∧
        ∃ v rest, s.host = .write (offsetOf r) v :: rest ∧ view t r = v ∧ t.rsp = some (.write .okay)) ∨
      (HostMoves s ∧ ∃ rest, s.host = .write (offsetOf .cmd) 0x0000003F :: rest) ∨ ∃ level ts, s.turns = .pin level :: ts)

/-- 20 R66: once BUSY = 0 it stays 0 until the host's next accepted write to CMD. -/
def Obligations.BusyBeginsOnlyAtCommandWrite : Prop :=
  ∀ s t : State, s.busy = false → step s = .next t → t.busy = true →
    ∃ v rest, s.host = .write (offsetOf .cmd) v :: rest ∧ v ≠ 0x0000003F ∧ s.rstN = true ∧
      (s.turns = [] ∨ ∃ ts, s.turns = .host :: ts) ∧ t.pend = some v ∧ t.rsp = some (.write .okay)

/-- 70 R193: an accepted command is over after finitely many steps: at the latest one step after the turns laid down are taken.
That the engine moves first when none is left is the model's choice (log 1). -/
def Obligations.AcceptedCommandEnds : Prop :=
  ∀ s : State, s.busy = true → s.rstN = true →
    ∃ n t, n ≤ s.turns.length + 1 ∧ Sys2Proof.core.run n s = .next t ∧ t.busy = false

/-- 70 R192: what a command answers depends only on the command and the operand registers, never on an earlier command: two states
that agree on XIN, KEY, BIN and SEG give the same code and the same outputs. -/
def Obligations.OutputsDependOnlyOnOperands : Prop :=
  ∀ (i : Instr) (s s' t t' : State), i ≠ .srst → SameInputs s s' → exec i s = .next t → exec i s' = .next t' →
    t.ecode = t'.ecode ∧ t.err = t'.err ∧ t.lastop = t'.lastop ∧
    (t.ecode = .none →
      (gfCommand i = true → t.result = t'.result) ∧
      (keyCommand i = true ∨ blockCommand i = true → t.sched = t'.sched ∧ t.schedLen = t'.schedLen) ∧
      ((∃ n o, i = .derive n o) → t.kout = t'.kout ∧ t.koLen = t'.koLen) ∧
      (blockCommand i = true → t.bout = t'.bout ∧ t.tv = t'.tv ∧ t.tnum = t'.tnum ∧ t.tdir = t'.tdir) ∧
      (tracedCommand i = true → t.trace = t'.trace))

/-- 10 R39: the round the sequencer is in is not observable: states that differ in SEQ alone step to states that differ in SEQ
alone (log 4). -/
def Obligations.SequencerIsHidden : Prop :=
  ∀ (s t : State) (q : Seq), step s = .next t → ∃ q', step { s with seq := q } = .next { t with seq := q' }
end

