-- ==== Sys2Proof/Laws/Assembler.lean ====
section
/-! SUPPORT. The written form of a line: commas alone separate fields, and a field with a space inside it is no number (30 R79). -/
namespace Sys2Proof.Machine

/-- A space is no digit. -/
@[simp] theorem digitValue_space (base : Nat) : digitValue base ' ' = none := by simp [digitValue]

/-- A run with a space in it is no run of digits. -/
theorem digitsValue_eq_none_of_space (base acc : Nat) (f : List Char) (h : ' ' ∈ f) : digitsValue base acc f = none := by
  induction f generalizing acc with
  | nil => cases h
  | cons c rest ih =>
    rcases List.mem_cons.mp h with rfl | h
    · simp [digitsValue]
    · cases hd : digitValue base c <;> simp [digitsValue, hd, ih _ h]

/-- A field with a space in it is no number. -/
theorem fieldValue_eq_none_of_space (f : List Char) (h : ' ' ∈ f) : fieldValue f = none := by
  unfold fieldValue
  split
  · rfl
  · rfl
  · exact digitsValue_eq_none_of_space 16 0 _ (by simpa using h)
  · exact digitsValue_eq_none_of_space 10 0 _ h

/-- Stripping keeps what stands from a first character that is no space to a last one. -/
theorem stripSpaces_keeps_inner (a b : List Char) (x y : Char) (hx : x ≠ ' ') (hy : y ∈ b) (hs : y ≠ ' ') :
    ' ' ∈ stripSpaces (a ++ x :: ' ' :: b) := by
  have front : ∀ l : List Char, ∃ p, (l ++ x :: ' ' :: b).dropWhile (· = ' ') = p ++ x :: ' ' :: b := by
    intro l
    induction l with
    | nil => exact ⟨[], by simp [hx]⟩
    | cons c rest ih =>
      by_cases hc : c = ' '
      · simpa [hc] using ih
      · exact ⟨c :: rest, by simp [hc]⟩
  have back : ∀ l q : List Char, y ∈ l → ∃ p, (l ++ q).dropWhile (· = ' ') = p ++ q := by
    intro l q hl
    induction l with
    | nil => cases hl
    | cons c rest ih =>
      by_cases hc : c = ' '
      · rcases List.mem_cons.mp hl with rfl | hl
        · exact absurd hc hs
        · simpa [hc] using ih hl
      · exact ⟨c :: rest, by simp [hc]⟩
  obtain ⟨p, hp⟩ := front a
  obtain ⟨q, hq⟩ := back b.reverse (' ' :: x :: p.reverse) (by simpa using hy)
  have hr : (p ++ x :: ' ' :: b).reverse = b.reverse ++ ' ' :: x :: p.reverse := by simp
  unfold stripSpaces
  rw [hp, hr, hq]
  simp

/-- As many fields as commas and one more. -/
theorem splitFields_length (text : List Char) : (splitFields text).length = text.count ',' + 1 := by
  have : (splitCommas text).length = text.count ',' + 1 := by
    induction text with
    | nil => rfl
    | cons c rest ih =>
      unfold splitCommas
      by_cases hc : c = ','
      · simp [hc, ih]
      · cases hs : splitCommas rest with
        | nil => simp [hs] at ih
        | cons f fs =>
          rw [hs] at ih
          simpa [hc, List.count_cons] using ih
  simpa [splitFields] using this

/-- Text without a comma is one field. -/
theorem splitFields_of_no_comma (text : List Char) (h : ',' ∉ text) : splitFields text = [stripSpaces text] := by
  have : splitCommas text = [text] := by
    induction text with
    | nil => rfl
    | cons c rest ih =>
      have hc : c ≠ ',' := by rintro rfl; simp at h
      simp [splitCommas, hc, ih (fun hr => h (List.mem_cons_of_mem _ hr))]
  simp [splitFields, this]

/-- The values of fields are as many as the fields. -/
theorem fieldValues_length {fs : List (List Char)} {vs : List Nat} (h : fieldValues fs = some vs) : vs.length = fs.length := by
  induction fs generalizing vs with
  | nil => cases h; rfl
  | cons f rest ih =>
    unfold fieldValues at h
    split at h
    · rename_i v ws _ hr
      cases h
      simp [ih hr]
    · cases h

end Sys2Proof.Machine
end

