-- ==== Sys2Proof/Laws/Encoding.lean ====
section
/-! SUPPORT. The fields of an encoded command word. -/
namespace Sys2Proof

theorem opField_encFields (op fa fb : Byte) : opField (encFields op fa fb) = op := by
  ext i hi
  simp only [opField, encFields, BitVec.getElem_extractLsb', BitVec.getLsbD_or, BitVec.getLsbD_shiftLeft, BitVec.getLsbD_setWidth]
  interval_cases i <;> simp [BitVec.getLsbD_eq_getElem]

theorem faField_encFields (op fa fb : Byte) : faField (encFields op fa fb) = fa := by
  ext i hi
  simp only [faField, encFields, BitVec.getElem_extractLsb', BitVec.getLsbD_or, BitVec.getLsbD_shiftLeft, BitVec.getLsbD_setWidth]
  interval_cases i <;> simp [BitVec.getLsbD_eq_getElem]

theorem fbField_encFields (op fa fb : Byte) : fbField (encFields op fa fb) = fb := by
  ext i hi
  simp only [fbField, encFields, BitVec.getElem_extractLsb', BitVec.getLsbD_or, BitVec.getLsbD_shiftLeft, BitVec.getLsbD_setWidth]
  interval_cases i <;> simp [BitVec.getLsbD_eq_getElem]

theorem rsvField_encFields (op fa fb : Byte) : rsvField (encFields op fa fb) = 0 := by
  ext i hi
  simp only [rsvField, encFields, BitVec.getElem_extractLsb', BitVec.getLsbD_or, BitVec.getLsbD_shiftLeft, BitVec.getLsbD_setWidth]
  interval_cases i <;> simp

/-- The fields of an encoded word are those encoded, RSV 0 (30 R73). -/
@[simp] theorem fieldsOf_encFields (op fa fb : Byte) : fieldsOf (encFields op fa fb) = ⟨op, fa, fb, 0⟩ := by
  simp only [fieldsOf, opField_encFields, faField_encFields, fbField_encFields, rsvField_encFields]

@[simp] theorem fieldsOf_encode (i : Instr) : fieldsOf (encode i) = ⟨i.opcode, i.fa, i.fb, 0⟩ := fieldsOf_encFields _ _ _

end Sys2Proof
end

