-- ==== Sys2Proof/Laws/HostProgram.lean ====
section
/-! SUPPORT. What the lines of a host program expand to, said once (30 R80, R81). -/
namespace Sys2Proof.Machine

/-- Words written out as bytes are read back as those words. -/
@[simp] theorem wordsOfBytes_columnBytes (ws : List Column) : wordsOfBytes (ws.flatMap columnBytes) = ws := by
  induction ws with
  | nil => rfl
  | cons c rest ih => simp [columnBytes, wordsOfBytes] at ih ⊢; exact ih

/-- A block's bytes are read back as its columns. -/
@[simp] theorem wordsOfBytes_blockBytes (b : Block) : wordsOfBytes (blockBytes b) = [b.c0, b.c1, b.c2, b.c3] := rfl

/-- A write per whole word of the bytes, as far as the bank goes. -/
@[simp] theorem hostWseq_length {n : Nat} (bank : Fin n → Reg) (bytes : List Byte) :
    (hostWseq bank bytes).length = min n (wordsOfBytes bytes).length := by simp [hostWseq]

/-- A read per register asked for, as far as the bank goes. -/
@[simp] theorem hostRseq_length {n : Nat} (bank : Fin n → Reg) (count : Nat) :
    (hostRseq bank count).length = min count n := by simp [hostRseq]

/-- A program is its writes, the CMD write of the command's word, the WAIT and its reads; there is one exactly for a command an
assembler takes. -/
theorem hostOperation_eq_some {writes reads p : List HostOp} {l : AsmLine} :
    hostOperation writes l reads = some p ↔ ∃ w, assemble l = some w ∧ p = writes ++ [hostW .cmd w, .wait] ++ reads := by
  cases h : assemble l <;> simp [hostOperation, hostRun, hostIssue, h, eq_comm]

end Sys2Proof.Machine
end

