-- ==== Sys2Proof/Laws/Packing.lean ====
section
/-! SUPPORT. Packing loses nothing: words and columns, banks and blocks. -/
namespace Sys2Proof.Machine

@[simp] theorem bytesOf_packWord (c : Column) : bytesOf (packWord c) = c := by
  obtain ⟨a, b, d, e⟩ := c
  simp only [bytesOf, packWord, Column.mk.injEq]
  refine ⟨?_, ?_, ?_, ?_⟩ <;>
    · ext i hi
      simp only [BitVec.getElem_extractLsb', BitVec.getLsbD_or, BitVec.getLsbD_shiftLeft, BitVec.getLsbD_setWidth]
      interval_cases i <;> simp [BitVec.getLsbD_of_ge, BitVec.getLsbD_eq_getElem]

@[simp] theorem packWord_bytesOf (v : Word) : packWord (bytesOf v) = v := by
  simp only [bytesOf, packWord]
  ext i hi
  simp only [BitVec.getElem_or, BitVec.getElem_shiftLeft, BitVec.getElem_setWidth,
    BitVec.getLsbD_extractLsb']
  interval_cases i <;> simp [BitVec.getLsbD_eq_getElem]

@[simp] theorem bankToBlock_blockToBank (b : Block) : bankToBlock (blockToBank b) = b := by
  simp [bankToBlock, blockToBank, blockWord, colOf]

@[simp] theorem blockToBank_bankToBlock (x : Vector Word 4) : blockToBank (bankToBlock x) = x := by
  ext i hi
  interval_cases i <;> simp [bankToBlock, blockToBank, blockWord, colOf]

end Sys2Proof.Machine
end

