-- ==== Sys2Proof/Laws/State.lean ====
section
/-! SUPPORT. The fields of a state after each named update: one lemma per field per update, true by unfolding, so that no later
proof unfolds a record update. -/
namespace Sys2Proof.Machine

variable (s : State)

@[simp] theorem State.setResult_cmd (v : Word) : (s.setResult v).cmd = s.cmd := rfl
@[simp] theorem State.setResult_done (v : Word) : (s.setResult v).done = s.done := rfl
@[simp] theorem State.setResult_err (v : Word) : (s.setResult v).err = s.err := rfl
@[simp] theorem State.setResult_ovr (v : Word) : (s.setResult v).ovr = s.ovr := rfl
@[simp] theorem State.setResult_tv (v : Word) : (s.setResult v).tv = s.tv := rfl
@[simp] theorem State.setResult_ecode (v : Word) : (s.setResult v).ecode = s.ecode := rfl
@[simp] theorem State.setResult_lastop (v : Word) : (s.setResult v).lastop = s.lastop := rfl
@[simp] theorem State.setResult_doneIE (v : Word) : (s.setResult v).doneIE = s.doneIE := rfl
@[simp] theorem State.setResult_errIE (v : Word) : (s.setResult v).errIE = s.errIE := rfl
@[simp] theorem State.setResult_schedLen (v : Word) : (s.setResult v).schedLen = s.schedLen := rfl
@[simp] theorem State.setResult_koLen (v : Word) : (s.setResult v).koLen = s.koLen := rfl
@[simp] theorem State.setResult_tnum (v : Word) : (s.setResult v).tnum = s.tnum := rfl
@[simp] theorem State.setResult_tdir (v : Word) : (s.setResult v).tdir = s.tdir := rfl
@[simp] theorem State.setResult_result (v : Word) : (s.setResult v).result = v := rfl
@[simp] theorem State.setResult_xin (v : Word) : (s.setResult v).xin = s.xin := rfl
@[simp] theorem State.setResult_key (v : Word) : (s.setResult v).key = s.key := rfl
@[simp] theorem State.setResult_bin (v : Word) : (s.setResult v).bin = s.bin := rfl
@[simp] theorem State.setResult_bout (v : Word) : (s.setResult v).bout = s.bout := rfl
@[simp] theorem State.setResult_seg (v : Word) : (s.setResult v).seg = s.seg := rfl
@[simp] theorem State.setResult_kout (v : Word) : (s.setResult v).kout = s.kout := rfl
@[simp] theorem State.setResult_sched (v : Word) : (s.setResult v).sched = s.sched := rfl
@[simp] theorem State.setResult_trace (v : Word) : (s.setResult v).trace = s.trace := rfl
@[simp] theorem State.setResult_pend (v : Word) : (s.setResult v).pend = s.pend := rfl
@[simp] theorem State.setResult_seq (v : Word) : (s.setResult v).seq = s.seq := rfl
@[simp] theorem State.setResult_rstN (v : Word) : (s.setResult v).rstN = s.rstN := rfl
@[simp] theorem State.setResult_rsp (v : Word) : (s.setResult v).rsp = s.rsp := rfl
@[simp] theorem State.setResult_host (v : Word) : (s.setResult v).host = s.host := rfl
@[simp] theorem State.setResult_turns (v : Word) : (s.setResult v).turns = s.turns := rfl
@[simp] theorem State.setResult_draws (v : Word) : (s.setResult v).draws = s.draws := rfl

@[simp] theorem State.setByteResult_cmd (b : Byte) : (s.setByteResult b).cmd = s.cmd := rfl
@[simp] theorem State.setByteResult_done (b : Byte) : (s.setByteResult b).done = s.done := rfl
@[simp] theorem State.setByteResult_err (b : Byte) : (s.setByteResult b).err = s.err := rfl
@[simp] theorem State.setByteResult_ovr (b : Byte) : (s.setByteResult b).ovr = s.ovr := rfl
@[simp] theorem State.setByteResult_tv (b : Byte) : (s.setByteResult b).tv = s.tv := rfl
@[simp] theorem State.setByteResult_ecode (b : Byte) : (s.setByteResult b).ecode = s.ecode := rfl
@[simp] theorem State.setByteResult_lastop (b : Byte) : (s.setByteResult b).lastop = s.lastop := rfl
@[simp] theorem State.setByteResult_doneIE (b : Byte) : (s.setByteResult b).doneIE = s.doneIE := rfl
@[simp] theorem State.setByteResult_errIE (b : Byte) : (s.setByteResult b).errIE = s.errIE := rfl
@[simp] theorem State.setByteResult_schedLen (b : Byte) : (s.setByteResult b).schedLen = s.schedLen := rfl
@[simp] theorem State.setByteResult_koLen (b : Byte) : (s.setByteResult b).koLen = s.koLen := rfl
@[simp] theorem State.setByteResult_tnum (b : Byte) : (s.setByteResult b).tnum = s.tnum := rfl
@[simp] theorem State.setByteResult_tdir (b : Byte) : (s.setByteResult b).tdir = s.tdir := rfl
@[simp] theorem State.setByteResult_result (b : Byte) : (s.setByteResult b).result = b.setWidth 32 := rfl
@[simp] theorem State.setByteResult_xin (b : Byte) : (s.setByteResult b).xin = s.xin := rfl
@[simp] theorem State.setByteResult_key (b : Byte) : (s.setByteResult b).key = s.key := rfl
@[simp] theorem State.setByteResult_bin (b : Byte) : (s.setByteResult b).bin = s.bin := rfl
@[simp] theorem State.setByteResult_bout (b : Byte) : (s.setByteResult b).bout = s.bout := rfl
@[simp] theorem State.setByteResult_seg (b : Byte) : (s.setByteResult b).seg = s.seg := rfl
@[simp] theorem State.setByteResult_kout (b : Byte) : (s.setByteResult b).kout = s.kout := rfl
@[simp] theorem State.setByteResult_sched (b : Byte) : (s.setByteResult b).sched = s.sched := rfl
@[simp] theorem State.setByteResult_trace (b : Byte) : (s.setByteResult b).trace = s.trace := rfl
@[simp] theorem State.setByteResult_pend (b : Byte) : (s.setByteResult b).pend = s.pend := rfl
@[simp] theorem State.setByteResult_seq (b : Byte) : (s.setByteResult b).seq = s.seq := rfl
@[simp] theorem State.setByteResult_rstN (b : Byte) : (s.setByteResult b).rstN = s.rstN := rfl
@[simp] theorem State.setByteResult_rsp (b : Byte) : (s.setByteResult b).rsp = s.rsp := rfl
@[simp] theorem State.setByteResult_host (b : Byte) : (s.setByteResult b).host = s.host := rfl
@[simp] theorem State.setByteResult_turns (b : Byte) : (s.setByteResult b).turns = s.turns := rfl
@[simp] theorem State.setByteResult_draws (b : Byte) : (s.setByteResult b).draws = s.draws := rfl

@[simp] theorem State.setBout_cmd (x : Block) : (s.setBout x).cmd = s.cmd := rfl
@[simp] theorem State.setBout_done (x : Block) : (s.setBout x).done = s.done := rfl
@[simp] theorem State.setBout_err (x : Block) : (s.setBout x).err = s.err := rfl
@[simp] theorem State.setBout_ovr (x : Block) : (s.setBout x).ovr = s.ovr := rfl
@[simp] theorem State.setBout_tv (x : Block) : (s.setBout x).tv = s.tv := rfl
@[simp] theorem State.setBout_ecode (x : Block) : (s.setBout x).ecode = s.ecode := rfl
@[simp] theorem State.setBout_lastop (x : Block) : (s.setBout x).lastop = s.lastop := rfl
@[simp] theorem State.setBout_doneIE (x : Block) : (s.setBout x).doneIE = s.doneIE := rfl
@[simp] theorem State.setBout_errIE (x : Block) : (s.setBout x).errIE = s.errIE := rfl
@[simp] theorem State.setBout_schedLen (x : Block) : (s.setBout x).schedLen = s.schedLen := rfl
@[simp] theorem State.setBout_koLen (x : Block) : (s.setBout x).koLen = s.koLen := rfl
@[simp] theorem State.setBout_tnum (x : Block) : (s.setBout x).tnum = s.tnum := rfl
@[simp] theorem State.setBout_tdir (x : Block) : (s.setBout x).tdir = s.tdir := rfl
@[simp] theorem State.setBout_result (x : Block) : (s.setBout x).result = s.result := rfl
@[simp] theorem State.setBout_xin (x : Block) : (s.setBout x).xin = s.xin := rfl
@[simp] theorem State.setBout_key (x : Block) : (s.setBout x).key = s.key := rfl
@[simp] theorem State.setBout_bin (x : Block) : (s.setBout x).bin = s.bin := rfl
@[simp] theorem State.setBout_bout (x : Block) : (s.setBout x).bout = blockToBank x := rfl
@[simp] theorem State.setBout_seg (x : Block) : (s.setBout x).seg = s.seg := rfl
@[simp] theorem State.setBout_kout (x : Block) : (s.setBout x).kout = s.kout := rfl
@[simp] theorem State.setBout_sched (x : Block) : (s.setBout x).sched = s.sched := rfl
@[simp] theorem State.setBout_trace (x : Block) : (s.setBout x).trace = s.trace := rfl
@[simp] theorem State.setBout_pend (x : Block) : (s.setBout x).pend = s.pend := rfl
@[simp] theorem State.setBout_seq (x : Block) : (s.setBout x).seq = s.seq := rfl
@[simp] theorem State.setBout_rstN (x : Block) : (s.setBout x).rstN = s.rstN := rfl
@[simp] theorem State.setBout_rsp (x : Block) : (s.setBout x).rsp = s.rsp := rfl
@[simp] theorem State.setBout_host (x : Block) : (s.setBout x).host = s.host := rfl
@[simp] theorem State.setBout_turns (x : Block) : (s.setBout x).turns = s.turns := rfl
@[simp] theorem State.setBout_draws (x : Block) : (s.setBout x).draws = s.draws := rfl

@[simp] theorem State.loadSched_cmd (w : List Word) : (s.loadSched w).cmd = s.cmd := rfl
@[simp] theorem State.loadSched_done (w : List Word) : (s.loadSched w).done = s.done := rfl
@[simp] theorem State.loadSched_err (w : List Word) : (s.loadSched w).err = s.err := rfl
@[simp] theorem State.loadSched_ovr (w : List Word) : (s.loadSched w).ovr = s.ovr := rfl
@[simp] theorem State.loadSched_tv (w : List Word) : (s.loadSched w).tv = s.tv := rfl
@[simp] theorem State.loadSched_ecode (w : List Word) : (s.loadSched w).ecode = s.ecode := rfl
@[simp] theorem State.loadSched_lastop (w : List Word) : (s.loadSched w).lastop = s.lastop := rfl
@[simp] theorem State.loadSched_doneIE (w : List Word) : (s.loadSched w).doneIE = s.doneIE := rfl
@[simp] theorem State.loadSched_errIE (w : List Word) : (s.loadSched w).errIE = s.errIE := rfl
@[simp] theorem State.loadSched_schedLen (w : List Word) : (s.loadSched w).schedLen = BitVec.ofNat 8 w.length := rfl
@[simp] theorem State.loadSched_koLen (w : List Word) : (s.loadSched w).koLen = s.koLen := rfl
@[simp] theorem State.loadSched_tnum (w : List Word) : (s.loadSched w).tnum = s.tnum := rfl
@[simp] theorem State.loadSched_tdir (w : List Word) : (s.loadSched w).tdir = s.tdir := rfl
@[simp] theorem State.loadSched_result (w : List Word) : (s.loadSched w).result = s.result := rfl
@[simp] theorem State.loadSched_xin (w : List Word) : (s.loadSched w).xin = s.xin := rfl
@[simp] theorem State.loadSched_key (w : List Word) : (s.loadSched w).key = s.key := rfl
@[simp] theorem State.loadSched_bin (w : List Word) : (s.loadSched w).bin = s.bin := rfl
@[simp] theorem State.loadSched_bout (w : List Word) : (s.loadSched w).bout = s.bout := rfl
@[simp] theorem State.loadSched_seg (w : List Word) : (s.loadSched w).seg = s.seg := rfl
@[simp] theorem State.loadSched_kout (w : List Word) : (s.loadSched w).kout = s.kout := rfl
@[simp] theorem State.loadSched_sched (w : List Word) : (s.loadSched w).sched = fillBank 60 w := rfl
@[simp] theorem State.loadSched_trace (w : List Word) : (s.loadSched w).trace = s.trace := rfl
@[simp] theorem State.loadSched_pend (w : List Word) : (s.loadSched w).pend = s.pend := rfl
@[simp] theorem State.loadSched_seq (w : List Word) : (s.loadSched w).seq = s.seq := rfl
@[simp] theorem State.loadSched_rstN (w : List Word) : (s.loadSched w).rstN = s.rstN := rfl
@[simp] theorem State.loadSched_rsp (w : List Word) : (s.loadSched w).rsp = s.rsp := rfl
@[simp] theorem State.loadSched_host (w : List Word) : (s.loadSched w).host = s.host := rfl
@[simp] theorem State.loadSched_turns (w : List Word) : (s.loadSched w).turns = s.turns := rfl
@[simp] theorem State.loadSched_draws (w : List Word) : (s.loadSched w).draws = s.draws := rfl

@[simp] theorem State.setKout_cmd (w : List Word) : (s.setKout w).cmd = s.cmd := rfl
@[simp] theorem State.setKout_done (w : List Word) : (s.setKout w).done = s.done := rfl
@[simp] theorem State.setKout_err (w : List Word) : (s.setKout w).err = s.err := rfl
@[simp] theorem State.setKout_ovr (w : List Word) : (s.setKout w).ovr = s.ovr := rfl
@[simp] theorem State.setKout_tv (w : List Word) : (s.setKout w).tv = s.tv := rfl
@[simp] theorem State.setKout_ecode (w : List Word) : (s.setKout w).ecode = s.ecode := rfl
@[simp] theorem State.setKout_lastop (w : List Word) : (s.setKout w).lastop = s.lastop := rfl
@[simp] theorem State.setKout_doneIE (w : List Word) : (s.setKout w).doneIE = s.doneIE := rfl
@[simp] theorem State.setKout_errIE (w : List Word) : (s.setKout w).errIE = s.errIE := rfl
@[simp] theorem State.setKout_schedLen (w : List Word) : (s.setKout w).schedLen = s.schedLen := rfl
@[simp] theorem State.setKout_koLen (w : List Word) : (s.setKout w).koLen = BitVec.ofNat 8 (4 * w.length) := rfl
@[simp] theorem State.setKout_tnum (w : List Word) : (s.setKout w).tnum = s.tnum := rfl
@[simp] theorem State.setKout_tdir (w : List Word) : (s.setKout w).tdir = s.tdir := rfl
@[simp] theorem State.setKout_result (w : List Word) : (s.setKout w).result = s.result := rfl
@[simp] theorem State.setKout_xin (w : List Word) : (s.setKout w).xin = s.xin := rfl
@[simp] theorem State.setKout_key (w : List Word) : (s.setKout w).key = s.key := rfl
@[simp] theorem State.setKout_bin (w : List Word) : (s.setKout w).bin = s.bin := rfl
@[simp] theorem State.setKout_bout (w : List Word) : (s.setKout w).bout = s.bout := rfl
@[simp] theorem State.setKout_seg (w : List Word) : (s.setKout w).seg = s.seg := rfl
@[simp] theorem State.setKout_kout (w : List Word) : (s.setKout w).kout = fillBank 8 w := rfl
@[simp] theorem State.setKout_sched (w : List Word) : (s.setKout w).sched = s.sched := rfl
@[simp] theorem State.setKout_trace (w : List Word) : (s.setKout w).trace = s.trace := rfl
@[simp] theorem State.setKout_pend (w : List Word) : (s.setKout w).pend = s.pend := rfl
@[simp] theorem State.setKout_seq (w : List Word) : (s.setKout w).seq = s.seq := rfl
@[simp] theorem State.setKout_rstN (w : List Word) : (s.setKout w).rstN = s.rstN := rfl
@[simp] theorem State.setKout_rsp (w : List Word) : (s.setKout w).rsp = s.rsp := rfl
@[simp] theorem State.setKout_host (w : List Word) : (s.setKout w).host = s.host := rfl
@[simp] theorem State.setKout_turns (w : List Word) : (s.setKout w).turns = s.turns := rfl
@[simp] theorem State.setKout_draws (w : List Word) : (s.setKout w).draws = s.draws := rfl

@[simp] theorem State.dropTrace_cmd : s.dropTrace.cmd = s.cmd := rfl
@[simp] theorem State.dropTrace_done : s.dropTrace.done = s.done := rfl
@[simp] theorem State.dropTrace_err : s.dropTrace.err = s.err := rfl
@[simp] theorem State.dropTrace_ovr : s.dropTrace.ovr = s.ovr := rfl
@[simp] theorem State.dropTrace_tv : s.dropTrace.tv = false := rfl
@[simp] theorem State.dropTrace_ecode : s.dropTrace.ecode = s.ecode := rfl
@[simp] theorem State.dropTrace_lastop : s.dropTrace.lastop = s.lastop := rfl
@[simp] theorem State.dropTrace_doneIE : s.dropTrace.doneIE = s.doneIE := rfl
@[simp] theorem State.dropTrace_errIE : s.dropTrace.errIE = s.errIE := rfl
@[simp] theorem State.dropTrace_schedLen : s.dropTrace.schedLen = s.schedLen := rfl
@[simp] theorem State.dropTrace_koLen : s.dropTrace.koLen = s.koLen := rfl
@[simp] theorem State.dropTrace_tnum : s.dropTrace.tnum = 0 := rfl
@[simp] theorem State.dropTrace_tdir : s.dropTrace.tdir = false := rfl
@[simp] theorem State.dropTrace_result : s.dropTrace.result = s.result := rfl
@[simp] theorem State.dropTrace_xin : s.dropTrace.xin = s.xin := rfl
@[simp] theorem State.dropTrace_key : s.dropTrace.key = s.key := rfl
@[simp] theorem State.dropTrace_bin : s.dropTrace.bin = s.bin := rfl
@[simp] theorem State.dropTrace_bout : s.dropTrace.bout = s.bout := rfl
@[simp] theorem State.dropTrace_seg : s.dropTrace.seg = s.seg := rfl
@[simp] theorem State.dropTrace_kout : s.dropTrace.kout = s.kout := rfl
@[simp] theorem State.dropTrace_sched : s.dropTrace.sched = s.sched := rfl
@[simp] theorem State.dropTrace_trace : s.dropTrace.trace = s.trace := rfl
@[simp] theorem State.dropTrace_pend : s.dropTrace.pend = s.pend := rfl
@[simp] theorem State.dropTrace_seq : s.dropTrace.seq = s.seq := rfl
@[simp] theorem State.dropTrace_rstN : s.dropTrace.rstN = s.rstN := rfl
@[simp] theorem State.dropTrace_rsp : s.dropTrace.rsp = s.rsp := rfl
@[simp] theorem State.dropTrace_host : s.dropTrace.host = s.host := rfl
@[simp] theorem State.dropTrace_turns : s.dropTrace.turns = s.turns := rfl
@[simp] theorem State.dropTrace_draws : s.dropTrace.draws = s.draws := rfl

@[simp] theorem State.recordTrace_cmd (d : Dir) (l : List Snapshot) : (s.recordTrace d l).cmd = s.cmd := rfl
@[simp] theorem State.recordTrace_done (d : Dir) (l : List Snapshot) : (s.recordTrace d l).done = s.done := rfl
@[simp] theorem State.recordTrace_err (d : Dir) (l : List Snapshot) : (s.recordTrace d l).err = s.err := rfl
@[simp] theorem State.recordTrace_ovr (d : Dir) (l : List Snapshot) : (s.recordTrace d l).ovr = s.ovr := rfl
@[simp] theorem State.recordTrace_tv (d : Dir) (l : List Snapshot) : (s.recordTrace d l).tv = true := rfl
@[simp] theorem State.recordTrace_ecode (d : Dir) (l : List Snapshot) : (s.recordTrace d l).ecode = s.ecode := rfl
@[simp] theorem State.recordTrace_lastop (d : Dir) (l : List Snapshot) : (s.recordTrace d l).lastop = s.lastop := rfl
@[simp] theorem State.recordTrace_doneIE (d : Dir) (l : List Snapshot) : (s.recordTrace d l).doneIE = s.doneIE := rfl
@[simp] theorem State.recordTrace_errIE (d : Dir) (l : List Snapshot) : (s.recordTrace d l).errIE = s.errIE := rfl
@[simp] theorem State.recordTrace_schedLen (d : Dir) (l : List Snapshot) : (s.recordTrace d l).schedLen = s.schedLen := rfl
@[simp] theorem State.recordTrace_koLen (d : Dir) (l : List Snapshot) : (s.recordTrace d l).koLen = s.koLen := rfl
@[simp] theorem State.recordTrace_tnum (d : Dir) (l : List Snapshot) : (s.recordTrace d l).tnum = BitVec.ofNat 4 l.length := rfl
@[simp] theorem State.recordTrace_tdir (d : Dir) (l : List Snapshot) : (s.recordTrace d l).tdir = decide (d = .decrypt) := rfl
@[simp] theorem State.recordTrace_result (d : Dir) (l : List Snapshot) : (s.recordTrace d l).result = s.result := rfl
@[simp] theorem State.recordTrace_xin (d : Dir) (l : List Snapshot) : (s.recordTrace d l).xin = s.xin := rfl
@[simp] theorem State.recordTrace_key (d : Dir) (l : List Snapshot) : (s.recordTrace d l).key = s.key := rfl
@[simp] theorem State.recordTrace_bin (d : Dir) (l : List Snapshot) : (s.recordTrace d l).bin = s.bin := rfl
@[simp] theorem State.recordTrace_bout (d : Dir) (l : List Snapshot) : (s.recordTrace d l).bout = s.bout := rfl
@[simp] theorem State.recordTrace_seg (d : Dir) (l : List Snapshot) : (s.recordTrace d l).seg = s.seg := rfl
@[simp] theorem State.recordTrace_kout (d : Dir) (l : List Snapshot) : (s.recordTrace d l).kout = s.kout := rfl
@[simp] theorem State.recordTrace_sched (d : Dir) (l : List Snapshot) : (s.recordTrace d l).sched = s.sched := rfl
@[simp] theorem State.recordTrace_trace (d : Dir) (l : List Snapshot) : (s.recordTrace d l).trace = traceWords d l := rfl
@[simp] theorem State.recordTrace_pend (d : Dir) (l : List Snapshot) : (s.recordTrace d l).pend = s.pend := rfl
@[simp] theorem State.recordTrace_seq (d : Dir) (l : List Snapshot) : (s.recordTrace d l).seq = s.seq := rfl
@[simp] theorem State.recordTrace_rstN (d : Dir) (l : List Snapshot) : (s.recordTrace d l).rstN = s.rstN := rfl
@[simp] theorem State.recordTrace_rsp (d : Dir) (l : List Snapshot) : (s.recordTrace d l).rsp = s.rsp := rfl
@[simp] theorem State.recordTrace_host (d : Dir) (l : List Snapshot) : (s.recordTrace d l).host = s.host := rfl
@[simp] theorem State.recordTrace_turns (d : Dir) (l : List Snapshot) : (s.recordTrace d l).turns = s.turns := rfl
@[simp] theorem State.recordTrace_draws (d : Dir) (l : List Snapshot) : (s.recordTrace d l).draws = s.draws := rfl

@[simp] theorem State.cipherOut_cmd (r : CipherRun) : (s.cipherOut r).cmd = s.cmd := rfl
@[simp] theorem State.cipherOut_done (r : CipherRun) : (s.cipherOut r).done = s.done := rfl
@[simp] theorem State.cipherOut_err (r : CipherRun) : (s.cipherOut r).err = s.err := rfl
@[simp] theorem State.cipherOut_ovr (r : CipherRun) : (s.cipherOut r).ovr = s.ovr := rfl
@[simp] theorem State.cipherOut_tv (r : CipherRun) : (s.cipherOut r).tv = s.tv := rfl
@[simp] theorem State.cipherOut_ecode (r : CipherRun) : (s.cipherOut r).ecode = s.ecode := rfl
@[simp] theorem State.cipherOut_lastop (r : CipherRun) : (s.cipherOut r).lastop = s.lastop := rfl
@[simp] theorem State.cipherOut_doneIE (r : CipherRun) : (s.cipherOut r).doneIE = s.doneIE := rfl
@[simp] theorem State.cipherOut_errIE (r : CipherRun) : (s.cipherOut r).errIE = s.errIE := rfl
@[simp] theorem State.cipherOut_schedLen (r : CipherRun) : (s.cipherOut r).schedLen = BitVec.ofNat 8 r.sched.length := rfl
@[simp] theorem State.cipherOut_koLen (r : CipherRun) : (s.cipherOut r).koLen = s.koLen := rfl
@[simp] theorem State.cipherOut_tnum (r : CipherRun) : (s.cipherOut r).tnum = s.tnum := rfl
@[simp] theorem State.cipherOut_tdir (r : CipherRun) : (s.cipherOut r).tdir = s.tdir := rfl
@[simp] theorem State.cipherOut_result (r : CipherRun) : (s.cipherOut r).result = s.result := rfl
@[simp] theorem State.cipherOut_xin (r : CipherRun) : (s.cipherOut r).xin = s.xin := rfl
@[simp] theorem State.cipherOut_key (r : CipherRun) : (s.cipherOut r).key = s.key := rfl
@[simp] theorem State.cipherOut_bin (r : CipherRun) : (s.cipherOut r).bin = s.bin := rfl
@[simp] theorem State.cipherOut_bout (r : CipherRun) : (s.cipherOut r).bout = blockToBank r.result := rfl
@[simp] theorem State.cipherOut_seg (r : CipherRun) : (s.cipherOut r).seg = s.seg := rfl
@[simp] theorem State.cipherOut_kout (r : CipherRun) : (s.cipherOut r).kout = s.kout := rfl
@[simp] theorem State.cipherOut_sched (r : CipherRun) : (s.cipherOut r).sched = fillBank 60 r.sched := rfl
@[simp] theorem State.cipherOut_trace (r : CipherRun) : (s.cipherOut r).trace = s.trace := rfl
@[simp] theorem State.cipherOut_pend (r : CipherRun) : (s.cipherOut r).pend = s.pend := rfl
@[simp] theorem State.cipherOut_seq (r : CipherRun) : (s.cipherOut r).seq = s.seq := rfl
@[simp] theorem State.cipherOut_rstN (r : CipherRun) : (s.cipherOut r).rstN = s.rstN := rfl
@[simp] theorem State.cipherOut_rsp (r : CipherRun) : (s.cipherOut r).rsp = s.rsp := rfl
@[simp] theorem State.cipherOut_host (r : CipherRun) : (s.cipherOut r).host = s.host := rfl
@[simp] theorem State.cipherOut_turns (r : CipherRun) : (s.cipherOut r).turns = s.turns := rfl
@[simp] theorem State.cipherOut_draws (r : CipherRun) : (s.cipherOut r).draws = s.draws := rfl

@[simp] theorem State.finish_cmd (op : Byte) (e : ErrorCode) : (s.finish op e).cmd = s.cmd := rfl
@[simp] theorem State.finish_done (op : Byte) (e : ErrorCode) : (s.finish op e).done = true := rfl
@[simp] theorem State.finish_err (op : Byte) (e : ErrorCode) : (s.finish op e).err = decide (e ≠ .none) := rfl
@[simp] theorem State.finish_ovr (op : Byte) (e : ErrorCode) : (s.finish op e).ovr = s.ovr := rfl
@[simp] theorem State.finish_tv (op : Byte) (e : ErrorCode) : (s.finish op e).tv = s.tv := rfl
@[simp] theorem State.finish_ecode (op : Byte) (e : ErrorCode) : (s.finish op e).ecode = e := rfl
@[simp] theorem State.finish_lastop (op : Byte) (e : ErrorCode) : (s.finish op e).lastop = op := rfl
@[simp] theorem State.finish_doneIE (op : Byte) (e : ErrorCode) : (s.finish op e).doneIE = s.doneIE := rfl
@[simp] theorem State.finish_errIE (op : Byte) (e : ErrorCode) : (s.finish op e).errIE = s.errIE := rfl
@[simp] theorem State.finish_schedLen (op : Byte) (e : ErrorCode) : (s.finish op e).schedLen = s.schedLen := rfl
@[simp] theorem State.finish_koLen (op : Byte) (e : ErrorCode) : (s.finish op e).koLen = s.koLen := rfl
@[simp] theorem State.finish_tnum (op : Byte) (e : ErrorCode) : (s.finish op e).tnum = s.tnum := rfl
@[simp] theorem State.finish_tdir (op : Byte) (e : ErrorCode) : (s.finish op e).tdir = s.tdir := rfl
@[simp] theorem State.finish_result (op : Byte) (e : ErrorCode) : (s.finish op e).result = s.result := rfl
@[simp] theorem State.finish_xin (op : Byte) (e : ErrorCode) : (s.finish op e).xin = s.xin := rfl
@[simp] theorem State.finish_key (op : Byte) (e : ErrorCode) : (s.finish op e).key = s.key := rfl
@[simp] theorem State.finish_bin (op : Byte) (e : ErrorCode) : (s.finish op e).bin = s.bin := rfl
@[simp] theorem State.finish_bout (op : Byte) (e : ErrorCode) : (s.finish op e).bout = s.bout := rfl
@[simp] theorem State.finish_seg (op : Byte) (e : ErrorCode) : (s.finish op e).seg = s.seg := rfl
@[simp] theorem State.finish_kout (op : Byte) (e : ErrorCode) : (s.finish op e).kout = s.kout := rfl
@[simp] theorem State.finish_sched (op : Byte) (e : ErrorCode) : (s.finish op e).sched = s.sched := rfl
@[simp] theorem State.finish_trace (op : Byte) (e : ErrorCode) : (s.finish op e).trace = s.trace := rfl
@[simp] theorem State.finish_pend (op : Byte) (e : ErrorCode) : (s.finish op e).pend = none := rfl
@[simp] theorem State.finish_seq (op : Byte) (e : ErrorCode) : (s.finish op e).seq = .start := rfl
@[simp] theorem State.finish_rstN (op : Byte) (e : ErrorCode) : (s.finish op e).rstN = s.rstN := rfl
@[simp] theorem State.finish_rsp (op : Byte) (e : ErrorCode) : (s.finish op e).rsp = s.rsp := rfl
@[simp] theorem State.finish_host (op : Byte) (e : ErrorCode) : (s.finish op e).host = s.host := rfl
@[simp] theorem State.finish_turns (op : Byte) (e : ErrorCode) : (s.finish op e).turns = s.turns := rfl
@[simp] theorem State.finish_draws (op : Byte) (e : ErrorCode) : (s.finish op e).draws = s.draws := rfl

@[simp] theorem State.clearStatus_cmd (v : Word) : (s.clearStatus v).cmd = s.cmd := rfl
@[simp] theorem State.clearStatus_done (v : Word) : (s.clearStatus v).done = (s.done && !v.getLsbD 1) := rfl
@[simp] theorem State.clearStatus_err (v : Word) : (s.clearStatus v).err = (s.err && !v.getLsbD 2) := rfl
@[simp] theorem State.clearStatus_ovr (v : Word) : (s.clearStatus v).ovr = (s.ovr && !v.getLsbD 3) := rfl
@[simp] theorem State.clearStatus_tv (v : Word) : (s.clearStatus v).tv = s.tv := rfl
@[simp] theorem State.clearStatus_ecode (v : Word) : (s.clearStatus v).ecode = s.ecode := rfl
@[simp] theorem State.clearStatus_lastop (v : Word) : (s.clearStatus v).lastop = s.lastop := rfl
@[simp] theorem State.clearStatus_doneIE (v : Word) : (s.clearStatus v).doneIE = s.doneIE := rfl
@[simp] theorem State.clearStatus_errIE (v : Word) : (s.clearStatus v).errIE = s.errIE := rfl
@[simp] theorem State.clearStatus_schedLen (v : Word) : (s.clearStatus v).schedLen = s.schedLen := rfl
@[simp] theorem State.clearStatus_koLen (v : Word) : (s.clearStatus v).koLen = s.koLen := rfl
@[simp] theorem State.clearStatus_tnum (v : Word) : (s.clearStatus v).tnum = s.tnum := rfl
@[simp] theorem State.clearStatus_tdir (v : Word) : (s.clearStatus v).tdir = s.tdir := rfl
@[simp] theorem State.clearStatus_result (v : Word) : (s.clearStatus v).result = s.result := rfl
@[simp] theorem State.clearStatus_xin (v : Word) : (s.clearStatus v).xin = s.xin := rfl
@[simp] theorem State.clearStatus_key (v : Word) : (s.clearStatus v).key = s.key := rfl
@[simp] theorem State.clearStatus_bin (v : Word) : (s.clearStatus v).bin = s.bin := rfl
@[simp] theorem State.clearStatus_bout (v : Word) : (s.clearStatus v).bout = s.bout := rfl
@[simp] theorem State.clearStatus_seg (v : Word) : (s.clearStatus v).seg = s.seg := rfl
@[simp] theorem State.clearStatus_kout (v : Word) : (s.clearStatus v).kout = s.kout := rfl
@[simp] theorem State.clearStatus_sched (v : Word) : (s.clearStatus v).sched = s.sched := rfl
@[simp] theorem State.clearStatus_trace (v : Word) : (s.clearStatus v).trace = s.trace := rfl
@[simp] theorem State.clearStatus_pend (v : Word) : (s.clearStatus v).pend = s.pend := rfl
@[simp] theorem State.clearStatus_seq (v : Word) : (s.clearStatus v).seq = s.seq := rfl
@[simp] theorem State.clearStatus_rstN (v : Word) : (s.clearStatus v).rstN = s.rstN := rfl
@[simp] theorem State.clearStatus_rsp (v : Word) : (s.clearStatus v).rsp = s.rsp := rfl
@[simp] theorem State.clearStatus_host (v : Word) : (s.clearStatus v).host = s.host := rfl
@[simp] theorem State.clearStatus_turns (v : Word) : (s.clearStatus v).turns = s.turns := rfl
@[simp] theorem State.clearStatus_draws (v : Word) : (s.clearStatus v).draws = s.draws := rfl

@[simp] theorem State.setIrqen_cmd (v : Word) : (s.setIrqen v).cmd = s.cmd := rfl
@[simp] theorem State.setIrqen_done (v : Word) : (s.setIrqen v).done = s.done := rfl
@[simp] theorem State.setIrqen_err (v : Word) : (s.setIrqen v).err = s.err := rfl
@[simp] theorem State.setIrqen_ovr (v : Word) : (s.setIrqen v).ovr = s.ovr := rfl
@[simp] theorem State.setIrqen_tv (v : Word) : (s.setIrqen v).tv = s.tv := rfl
@[simp] theorem State.setIrqen_ecode (v : Word) : (s.setIrqen v).ecode = s.ecode := rfl
@[simp] theorem State.setIrqen_lastop (v : Word) : (s.setIrqen v).lastop = s.lastop := rfl
@[simp] theorem State.setIrqen_doneIE (v : Word) : (s.setIrqen v).doneIE = v.getLsbD 0 := rfl
@[simp] theorem State.setIrqen_errIE (v : Word) : (s.setIrqen v).errIE = v.getLsbD 1 := rfl
@[simp] theorem State.setIrqen_schedLen (v : Word) : (s.setIrqen v).schedLen = s.schedLen := rfl
@[simp] theorem State.setIrqen_koLen (v : Word) : (s.setIrqen v).koLen = s.koLen := rfl
@[simp] theorem State.setIrqen_tnum (v : Word) : (s.setIrqen v).tnum = s.tnum := rfl
@[simp] theorem State.setIrqen_tdir (v : Word) : (s.setIrqen v).tdir = s.tdir := rfl
@[simp] theorem State.setIrqen_result (v : Word) : (s.setIrqen v).result = s.result := rfl
@[simp] theorem State.setIrqen_xin (v : Word) : (s.setIrqen v).xin = s.xin := rfl
@[simp] theorem State.setIrqen_key (v : Word) : (s.setIrqen v).key = s.key := rfl
@[simp] theorem State.setIrqen_bin (v : Word) : (s.setIrqen v).bin = s.bin := rfl
@[simp] theorem State.setIrqen_bout (v : Word) : (s.setIrqen v).bout = s.bout := rfl
@[simp] theorem State.setIrqen_seg (v : Word) : (s.setIrqen v).seg = s.seg := rfl
@[simp] theorem State.setIrqen_kout (v : Word) : (s.setIrqen v).kout = s.kout := rfl
@[simp] theorem State.setIrqen_sched (v : Word) : (s.setIrqen v).sched = s.sched := rfl
@[simp] theorem State.setIrqen_trace (v : Word) : (s.setIrqen v).trace = s.trace := rfl
@[simp] theorem State.setIrqen_pend (v : Word) : (s.setIrqen v).pend = s.pend := rfl
@[simp] theorem State.setIrqen_seq (v : Word) : (s.setIrqen v).seq = s.seq := rfl
@[simp] theorem State.setIrqen_rstN (v : Word) : (s.setIrqen v).rstN = s.rstN := rfl
@[simp] theorem State.setIrqen_rsp (v : Word) : (s.setIrqen v).rsp = s.rsp := rfl
@[simp] theorem State.setIrqen_host (v : Word) : (s.setIrqen v).host = s.host := rfl
@[simp] theorem State.setIrqen_turns (v : Word) : (s.setIrqen v).turns = s.turns := rfl
@[simp] theorem State.setIrqen_draws (v : Word) : (s.setIrqen v).draws = s.draws := rfl

@[simp] theorem State.setOverrun_cmd : s.setOverrun.cmd = s.cmd := rfl
@[simp] theorem State.setOverrun_done : s.setOverrun.done = s.done := rfl
@[simp] theorem State.setOverrun_err : s.setOverrun.err = s.err := rfl
@[simp] theorem State.setOverrun_ovr : s.setOverrun.ovr = true := rfl
@[simp] theorem State.setOverrun_tv : s.setOverrun.tv = s.tv := rfl
@[simp] theorem State.setOverrun_ecode : s.setOverrun.ecode = s.ecode := rfl
@[simp] theorem State.setOverrun_lastop : s.setOverrun.lastop = s.lastop := rfl
@[simp] theorem State.setOverrun_doneIE : s.setOverrun.doneIE = s.doneIE := rfl
@[simp] theorem State.setOverrun_errIE : s.setOverrun.errIE = s.errIE := rfl
@[simp] theorem State.setOverrun_schedLen : s.setOverrun.schedLen = s.schedLen := rfl
@[simp] theorem State.setOverrun_koLen : s.setOverrun.koLen = s.koLen := rfl
@[simp] theorem State.setOverrun_tnum : s.setOverrun.tnum = s.tnum := rfl
@[simp] theorem State.setOverrun_tdir : s.setOverrun.tdir = s.tdir := rfl
@[simp] theorem State.setOverrun_result : s.setOverrun.result = s.result := rfl
@[simp] theorem State.setOverrun_xin : s.setOverrun.xin = s.xin := rfl
@[simp] theorem State.setOverrun_key : s.setOverrun.key = s.key := rfl
@[simp] theorem State.setOverrun_bin : s.setOverrun.bin = s.bin := rfl
@[simp] theorem State.setOverrun_bout : s.setOverrun.bout = s.bout := rfl
@[simp] theorem State.setOverrun_seg : s.setOverrun.seg = s.seg := rfl
@[simp] theorem State.setOverrun_kout : s.setOverrun.kout = s.kout := rfl
@[simp] theorem State.setOverrun_sched : s.setOverrun.sched = s.sched := rfl
@[simp] theorem State.setOverrun_trace : s.setOverrun.trace = s.trace := rfl
@[simp] theorem State.setOverrun_pend : s.setOverrun.pend = s.pend := rfl
@[simp] theorem State.setOverrun_seq : s.setOverrun.seq = s.seq := rfl
@[simp] theorem State.setOverrun_rstN : s.setOverrun.rstN = s.rstN := rfl
@[simp] theorem State.setOverrun_rsp : s.setOverrun.rsp = s.rsp := rfl
@[simp] theorem State.setOverrun_host : s.setOverrun.host = s.host := rfl
@[simp] theorem State.setOverrun_turns : s.setOverrun.turns = s.turns := rfl
@[simp] theorem State.setOverrun_draws : s.setOverrun.draws = s.draws := rfl

@[simp] theorem State.respond_cmd (r : Response) : (s.respond r).cmd = s.cmd := rfl
@[simp] theorem State.respond_done (r : Response) : (s.respond r).done = s.done := rfl
@[simp] theorem State.respond_err (r : Response) : (s.respond r).err = s.err := rfl
@[simp] theorem State.respond_ovr (r : Response) : (s.respond r).ovr = s.ovr := rfl
@[simp] theorem State.respond_tv (r : Response) : (s.respond r).tv = s.tv := rfl
@[simp] theorem State.respond_ecode (r : Response) : (s.respond r).ecode = s.ecode := rfl
@[simp] theorem State.respond_lastop (r : Response) : (s.respond r).lastop = s.lastop := rfl
@[simp] theorem State.respond_doneIE (r : Response) : (s.respond r).doneIE = s.doneIE := rfl
@[simp] theorem State.respond_errIE (r : Response) : (s.respond r).errIE = s.errIE := rfl
@[simp] theorem State.respond_schedLen (r : Response) : (s.respond r).schedLen = s.schedLen := rfl
@[simp] theorem State.respond_koLen (r : Response) : (s.respond r).koLen = s.koLen := rfl
@[simp] theorem State.respond_tnum (r : Response) : (s.respond r).tnum = s.tnum := rfl
@[simp] theorem State.respond_tdir (r : Response) : (s.respond r).tdir = s.tdir := rfl
@[simp] theorem State.respond_result (r : Response) : (s.respond r).result = s.result := rfl
@[simp] theorem State.respond_xin (r : Response) : (s.respond r).xin = s.xin := rfl
@[simp] theorem State.respond_key (r : Response) : (s.respond r).key = s.key := rfl
@[simp] theorem State.respond_bin (r : Response) : (s.respond r).bin = s.bin := rfl
@[simp] theorem State.respond_bout (r : Response) : (s.respond r).bout = s.bout := rfl
@[simp] theorem State.respond_seg (r : Response) : (s.respond r).seg = s.seg := rfl
@[simp] theorem State.respond_kout (r : Response) : (s.respond r).kout = s.kout := rfl
@[simp] theorem State.respond_sched (r : Response) : (s.respond r).sched = s.sched := rfl
@[simp] theorem State.respond_trace (r : Response) : (s.respond r).trace = s.trace := rfl
@[simp] theorem State.respond_pend (r : Response) : (s.respond r).pend = s.pend := rfl
@[simp] theorem State.respond_seq (r : Response) : (s.respond r).seq = s.seq := rfl
@[simp] theorem State.respond_rstN (r : Response) : (s.respond r).rstN = s.rstN := rfl
@[simp] theorem State.respond_rsp (r : Response) : (s.respond r).rsp = some r := rfl
@[simp] theorem State.respond_host (r : Response) : (s.respond r).host = s.host := rfl
@[simp] theorem State.respond_turns (r : Response) : (s.respond r).turns = s.turns := rfl
@[simp] theorem State.respond_draws (r : Response) : (s.respond r).draws = s.draws := rfl

@[simp] theorem State.refuse_cmd : s.refuse.cmd = s.cmd := rfl
@[simp] theorem State.refuse_done : s.refuse.done = s.done := rfl
@[simp] theorem State.refuse_err : s.refuse.err = s.err := rfl
@[simp] theorem State.refuse_ovr : s.refuse.ovr = true := rfl
@[simp] theorem State.refuse_tv : s.refuse.tv = s.tv := rfl
@[simp] theorem State.refuse_ecode : s.refuse.ecode = s.ecode := rfl
@[simp] theorem State.refuse_lastop : s.refuse.lastop = s.lastop := rfl
@[simp] theorem State.refuse_doneIE : s.refuse.doneIE = s.doneIE := rfl
@[simp] theorem State.refuse_errIE : s.refuse.errIE = s.errIE := rfl
@[simp] theorem State.refuse_schedLen : s.refuse.schedLen = s.schedLen := rfl
@[simp] theorem State.refuse_koLen : s.refuse.koLen = s.koLen := rfl
@[simp] theorem State.refuse_tnum : s.refuse.tnum = s.tnum := rfl
@[simp] theorem State.refuse_tdir : s.refuse.tdir = s.tdir := rfl
@[simp] theorem State.refuse_result : s.refuse.result = s.result := rfl
@[simp] theorem State.refuse_xin : s.refuse.xin = s.xin := rfl
@[simp] theorem State.refuse_key : s.refuse.key = s.key := rfl
@[simp] theorem State.refuse_bin : s.refuse.bin = s.bin := rfl
@[simp] theorem State.refuse_bout : s.refuse.bout = s.bout := rfl
@[simp] theorem State.refuse_seg : s.refuse.seg = s.seg := rfl
@[simp] theorem State.refuse_kout : s.refuse.kout = s.kout := rfl
@[simp] theorem State.refuse_sched : s.refuse.sched = s.sched := rfl
@[simp] theorem State.refuse_trace : s.refuse.trace = s.trace := rfl
@[simp] theorem State.refuse_pend : s.refuse.pend = s.pend := rfl
@[simp] theorem State.refuse_seq : s.refuse.seq = s.seq := rfl
@[simp] theorem State.refuse_rstN : s.refuse.rstN = s.rstN := rfl
@[simp] theorem State.refuse_rsp : s.refuse.rsp = some (.write .slverr) := rfl
@[simp] theorem State.refuse_host : s.refuse.host = s.host := rfl
@[simp] theorem State.refuse_turns : s.refuse.turns = s.turns := rfl
@[simp] theorem State.refuse_draws : s.refuse.draws = s.draws := rfl

@[simp] theorem State.accept_cmd (v : Word) : (s.accept v).cmd = v := rfl
@[simp] theorem State.accept_done (v : Word) : (s.accept v).done = false := rfl
@[simp] theorem State.accept_err (v : Word) : (s.accept v).err = false := rfl
@[simp] theorem State.accept_ovr (v : Word) : (s.accept v).ovr = s.ovr := rfl
@[simp] theorem State.accept_tv (v : Word) : (s.accept v).tv = s.tv := rfl
@[simp] theorem State.accept_ecode (v : Word) : (s.accept v).ecode = .none := rfl
@[simp] theorem State.accept_lastop (v : Word) : (s.accept v).lastop = s.lastop := rfl
@[simp] theorem State.accept_doneIE (v : Word) : (s.accept v).doneIE = s.doneIE := rfl
@[simp] theorem State.accept_errIE (v : Word) : (s.accept v).errIE = s.errIE := rfl
@[simp] theorem State.accept_schedLen (v : Word) : (s.accept v).schedLen = s.schedLen := rfl
@[simp] theorem State.accept_koLen (v : Word) : (s.accept v).koLen = s.koLen := rfl
@[simp] theorem State.accept_tnum (v : Word) : (s.accept v).tnum = s.tnum := rfl
@[simp] theorem State.accept_tdir (v : Word) : (s.accept v).tdir = s.tdir := rfl
@[simp] theorem State.accept_result (v : Word) : (s.accept v).result = s.result := rfl
@[simp] theorem State.accept_xin (v : Word) : (s.accept v).xin = s.xin := rfl
@[simp] theorem State.accept_key (v : Word) : (s.accept v).key = s.key := rfl
@[simp] theorem State.accept_bin (v : Word) : (s.accept v).bin = s.bin := rfl
@[simp] theorem State.accept_bout (v : Word) : (s.accept v).bout = s.bout := rfl
@[simp] theorem State.accept_seg (v : Word) : (s.accept v).seg = s.seg := rfl
@[simp] theorem State.accept_kout (v : Word) : (s.accept v).kout = s.kout := rfl
@[simp] theorem State.accept_sched (v : Word) : (s.accept v).sched = s.sched := rfl
@[simp] theorem State.accept_trace (v : Word) : (s.accept v).trace = s.trace := rfl
@[simp] theorem State.accept_pend (v : Word) : (s.accept v).pend = some v := rfl
@[simp] theorem State.accept_seq (v : Word) : (s.accept v).seq = firstStageOf v := rfl
@[simp] theorem State.accept_rstN (v : Word) : (s.accept v).rstN = s.rstN := rfl
@[simp] theorem State.accept_rsp (v : Word) : (s.accept v).rsp = s.rsp := rfl
@[simp] theorem State.accept_host (v : Word) : (s.accept v).host = s.host := rfl
@[simp] theorem State.accept_turns (v : Word) : (s.accept v).turns = s.turns := rfl
@[simp] theorem State.accept_draws (v : Word) : (s.accept v).draws = s.draws := rfl

@[simp] theorem State.advanceSeq_cmd : s.advanceSeq.cmd = s.cmd := rfl
@[simp] theorem State.advanceSeq_done : s.advanceSeq.done = s.done := rfl
@[simp] theorem State.advanceSeq_err : s.advanceSeq.err = s.err := rfl
@[simp] theorem State.advanceSeq_ovr : s.advanceSeq.ovr = s.ovr := rfl
@[simp] theorem State.advanceSeq_tv : s.advanceSeq.tv = s.tv := rfl
@[simp] theorem State.advanceSeq_ecode : s.advanceSeq.ecode = s.ecode := rfl
@[simp] theorem State.advanceSeq_lastop : s.advanceSeq.lastop = s.lastop := rfl
@[simp] theorem State.advanceSeq_doneIE : s.advanceSeq.doneIE = s.doneIE := rfl
@[simp] theorem State.advanceSeq_errIE : s.advanceSeq.errIE = s.errIE := rfl
@[simp] theorem State.advanceSeq_schedLen : s.advanceSeq.schedLen = s.schedLen := rfl
@[simp] theorem State.advanceSeq_koLen : s.advanceSeq.koLen = s.koLen := rfl
@[simp] theorem State.advanceSeq_tnum : s.advanceSeq.tnum = s.tnum := rfl
@[simp] theorem State.advanceSeq_tdir : s.advanceSeq.tdir = s.tdir := rfl
@[simp] theorem State.advanceSeq_result : s.advanceSeq.result = s.result := rfl
@[simp] theorem State.advanceSeq_xin : s.advanceSeq.xin = s.xin := rfl
@[simp] theorem State.advanceSeq_key : s.advanceSeq.key = s.key := rfl
@[simp] theorem State.advanceSeq_bin : s.advanceSeq.bin = s.bin := rfl
@[simp] theorem State.advanceSeq_bout : s.advanceSeq.bout = s.bout := rfl
@[simp] theorem State.advanceSeq_seg : s.advanceSeq.seg = s.seg := rfl
@[simp] theorem State.advanceSeq_kout : s.advanceSeq.kout = s.kout := rfl
@[simp] theorem State.advanceSeq_sched : s.advanceSeq.sched = s.sched := rfl
@[simp] theorem State.advanceSeq_trace : s.advanceSeq.trace = s.trace := rfl
@[simp] theorem State.advanceSeq_pend : s.advanceSeq.pend = s.pend := rfl
@[simp] theorem State.advanceSeq_seq : s.advanceSeq.seq = if s.rstN then nextStageOf s.pend s.seq else s.seq := rfl
@[simp] theorem State.advanceSeq_rstN : s.advanceSeq.rstN = s.rstN := rfl
@[simp] theorem State.advanceSeq_rsp : s.advanceSeq.rsp = s.rsp := rfl
@[simp] theorem State.advanceSeq_host : s.advanceSeq.host = s.host := rfl
@[simp] theorem State.advanceSeq_turns : s.advanceSeq.turns = s.turns := rfl
@[simp] theorem State.advanceSeq_draws : s.advanceSeq.draws = s.draws := rfl

@[simp] theorem State.drawRead_cmd : s.drawRead.cmd = s.cmd := rfl
@[simp] theorem State.drawRead_done : s.drawRead.done = s.done := rfl
@[simp] theorem State.drawRead_err : s.drawRead.err = s.err := rfl
@[simp] theorem State.drawRead_ovr : s.drawRead.ovr = s.ovr := rfl
@[simp] theorem State.drawRead_tv : s.drawRead.tv = s.tv := rfl
@[simp] theorem State.drawRead_ecode : s.drawRead.ecode = s.ecode := rfl
@[simp] theorem State.drawRead_lastop : s.drawRead.lastop = s.lastop := rfl
@[simp] theorem State.drawRead_doneIE : s.drawRead.doneIE = s.doneIE := rfl
@[simp] theorem State.drawRead_errIE : s.drawRead.errIE = s.errIE := rfl
@[simp] theorem State.drawRead_schedLen : s.drawRead.schedLen = s.schedLen := rfl
@[simp] theorem State.drawRead_koLen : s.drawRead.koLen = s.koLen := rfl
@[simp] theorem State.drawRead_tnum : s.drawRead.tnum = s.tnum := rfl
@[simp] theorem State.drawRead_tdir : s.drawRead.tdir = s.tdir := rfl
@[simp] theorem State.drawRead_result : s.drawRead.result = s.result := rfl
@[simp] theorem State.drawRead_xin : s.drawRead.xin = s.xin := rfl
@[simp] theorem State.drawRead_key : s.drawRead.key = s.key := rfl
@[simp] theorem State.drawRead_bin : s.drawRead.bin = s.bin := rfl
@[simp] theorem State.drawRead_bout : s.drawRead.bout = s.bout := rfl
@[simp] theorem State.drawRead_seg : s.drawRead.seg = s.seg := rfl
@[simp] theorem State.drawRead_kout : s.drawRead.kout = s.kout := rfl
@[simp] theorem State.drawRead_sched : s.drawRead.sched = s.sched := rfl
@[simp] theorem State.drawRead_trace : s.drawRead.trace = s.trace := rfl
@[simp] theorem State.drawRead_pend : s.drawRead.pend = s.pend := rfl
@[simp] theorem State.drawRead_seq : s.drawRead.seq = s.seq := rfl
@[simp] theorem State.drawRead_rstN : s.drawRead.rstN = s.rstN := rfl
@[simp] theorem State.drawRead_rsp : s.drawRead.rsp = some (.read .okay (Config.draw s.draws)) := rfl
@[simp] theorem State.drawRead_host : s.drawRead.host = s.host := rfl
@[simp] theorem State.drawRead_turns : s.drawRead.turns = s.turns := rfl
@[simp] theorem State.drawRead_draws : s.drawRead.draws = s.draws + 1 := rfl

@[simp] theorem State.noResponse_cmd : s.noResponse.cmd = s.cmd := rfl
@[simp] theorem State.noResponse_done : s.noResponse.done = s.done := rfl
@[simp] theorem State.noResponse_err : s.noResponse.err = s.err := rfl
@[simp] theorem State.noResponse_ovr : s.noResponse.ovr = s.ovr := rfl
@[simp] theorem State.noResponse_tv : s.noResponse.tv = s.tv := rfl
@[simp] theorem State.noResponse_ecode : s.noResponse.ecode = s.ecode := rfl
@[simp] theorem State.noResponse_lastop : s.noResponse.lastop = s.lastop := rfl
@[simp] theorem State.noResponse_doneIE : s.noResponse.doneIE = s.doneIE := rfl
@[simp] theorem State.noResponse_errIE : s.noResponse.errIE = s.errIE := rfl
@[simp] theorem State.noResponse_schedLen : s.noResponse.schedLen = s.schedLen := rfl
@[simp] theorem State.noResponse_koLen : s.noResponse.koLen = s.koLen := rfl
@[simp] theorem State.noResponse_tnum : s.noResponse.tnum = s.tnum := rfl
@[simp] theorem State.noResponse_tdir : s.noResponse.tdir = s.tdir := rfl
@[simp] theorem State.noResponse_result : s.noResponse.result = s.result := rfl
@[simp] theorem State.noResponse_xin : s.noResponse.xin = s.xin := rfl
@[simp] theorem State.noResponse_key : s.noResponse.key = s.key := rfl
@[simp] theorem State.noResponse_bin : s.noResponse.bin = s.bin := rfl
@[simp] theorem State.noResponse_bout : s.noResponse.bout = s.bout := rfl
@[simp] theorem State.noResponse_seg : s.noResponse.seg = s.seg := rfl
@[simp] theorem State.noResponse_kout : s.noResponse.kout = s.kout := rfl
@[simp] theorem State.noResponse_sched : s.noResponse.sched = s.sched := rfl
@[simp] theorem State.noResponse_trace : s.noResponse.trace = s.trace := rfl
@[simp] theorem State.noResponse_pend : s.noResponse.pend = s.pend := rfl
@[simp] theorem State.noResponse_seq : s.noResponse.seq = s.seq := rfl
@[simp] theorem State.noResponse_rstN : s.noResponse.rstN = s.rstN := rfl
@[simp] theorem State.noResponse_rsp : s.noResponse.rsp = none := rfl
@[simp] theorem State.noResponse_host : s.noResponse.host = s.host := rfl
@[simp] theorem State.noResponse_turns : s.noResponse.turns = s.turns := rfl
@[simp] theorem State.noResponse_draws : s.noResponse.draws = s.draws := rfl

@[simp] theorem State.resetEngine_cmd : s.resetEngine.cmd = 0 := rfl
@[simp] theorem State.resetEngine_done : s.resetEngine.done = false := rfl
@[simp] theorem State.resetEngine_err : s.resetEngine.err = false := rfl
@[simp] theorem State.resetEngine_ovr : s.resetEngine.ovr = false := rfl
@[simp] theorem State.resetEngine_tv : s.resetEngine.tv = false := rfl
@[simp] theorem State.resetEngine_ecode : s.resetEngine.ecode = .none := rfl
@[simp] theorem State.resetEngine_lastop : s.resetEngine.lastop = 0 := rfl
@[simp] theorem State.resetEngine_doneIE : s.resetEngine.doneIE = false := rfl
@[simp] theorem State.resetEngine_errIE : s.resetEngine.errIE = false := rfl
@[simp] theorem State.resetEngine_schedLen : s.resetEngine.schedLen = 0 := rfl
@[simp] theorem State.resetEngine_koLen : s.resetEngine.koLen = 0 := rfl
@[simp] theorem State.resetEngine_tnum : s.resetEngine.tnum = 0 := rfl
@[simp] theorem State.resetEngine_tdir : s.resetEngine.tdir = false := rfl
@[simp] theorem State.resetEngine_result : s.resetEngine.result = 0 := rfl
@[simp] theorem State.resetEngine_xin : s.resetEngine.xin = 0 := rfl
@[simp] theorem State.resetEngine_key : s.resetEngine.key = Vector.replicate 8 0 := rfl
@[simp] theorem State.resetEngine_bin : s.resetEngine.bin = Vector.replicate 4 0 := rfl
@[simp] theorem State.resetEngine_bout : s.resetEngine.bout = Vector.replicate 4 0 := rfl
@[simp] theorem State.resetEngine_seg : s.resetEngine.seg = Vector.replicate 8 0 := rfl
@[simp] theorem State.resetEngine_kout : s.resetEngine.kout = Vector.replicate 8 0 := rfl
@[simp] theorem State.resetEngine_sched : s.resetEngine.sched = Vector.replicate 60 0 := rfl
@[simp] theorem State.resetEngine_trace : s.resetEngine.trace = Vector.replicate 15 (Vector.replicate 32 0) := rfl
@[simp] theorem State.resetEngine_pend : s.resetEngine.pend = none := rfl
@[simp] theorem State.resetEngine_seq : s.resetEngine.seq = .start := rfl
@[simp] theorem State.resetEngine_rstN : s.resetEngine.rstN = s.rstN := rfl
@[simp] theorem State.resetEngine_rsp : s.resetEngine.rsp = s.rsp := rfl
@[simp] theorem State.resetEngine_host : s.resetEngine.host = s.host := rfl
@[simp] theorem State.resetEngine_turns : s.resetEngine.turns = s.turns := rfl
@[simp] theorem State.resetEngine_draws : s.resetEngine.draws = s.draws := rfl

@[simp] theorem State.softReset_cmd : s.softReset.cmd = 0 := rfl
@[simp] theorem State.softReset_done : s.softReset.done = false := rfl
@[simp] theorem State.softReset_err : s.softReset.err = false := rfl
@[simp] theorem State.softReset_ovr : s.softReset.ovr = false := rfl
@[simp] theorem State.softReset_tv : s.softReset.tv = false := rfl
@[simp] theorem State.softReset_ecode : s.softReset.ecode = .none := rfl
@[simp] theorem State.softReset_lastop : s.softReset.lastop = 0 := rfl
@[simp] theorem State.softReset_doneIE : s.softReset.doneIE = false := rfl
@[simp] theorem State.softReset_errIE : s.softReset.errIE = false := rfl
@[simp] theorem State.softReset_schedLen : s.softReset.schedLen = 0 := rfl
@[simp] theorem State.softReset_koLen : s.softReset.koLen = 0 := rfl
@[simp] theorem State.softReset_tnum : s.softReset.tnum = 0 := rfl
@[simp] theorem State.softReset_tdir : s.softReset.tdir = false := rfl
@[simp] theorem State.softReset_result : s.softReset.result = 0 := rfl
@[simp] theorem State.softReset_xin : s.softReset.xin = 0 := rfl
@[simp] theorem State.softReset_key : s.softReset.key = Vector.replicate 8 0 := rfl
@[simp] theorem State.softReset_bin : s.softReset.bin = Vector.replicate 4 0 := rfl
@[simp] theorem State.softReset_bout : s.softReset.bout = Vector.replicate 4 0 := rfl
@[simp] theorem State.softReset_seg : s.softReset.seg = Vector.replicate 8 0 := rfl
@[simp] theorem State.softReset_kout : s.softReset.kout = Vector.replicate 8 0 := rfl
@[simp] theorem State.softReset_sched : s.softReset.sched = Vector.replicate 60 0 := rfl
@[simp] theorem State.softReset_trace : s.softReset.trace = Vector.replicate 15 (Vector.replicate 32 0) := rfl
@[simp] theorem State.softReset_pend : s.softReset.pend = none := rfl
@[simp] theorem State.softReset_seq : s.softReset.seq = .start := rfl
@[simp] theorem State.softReset_rstN : s.softReset.rstN = s.rstN := rfl
@[simp] theorem State.softReset_rsp : s.softReset.rsp = some (.write .okay) := rfl
@[simp] theorem State.softReset_host : s.softReset.host = s.host := rfl
@[simp] theorem State.softReset_turns : s.softReset.turns = s.turns := rfl
@[simp] theorem State.softReset_draws : s.softReset.draws = s.draws := rfl

@[simp] theorem State.setPin_cmd (level : Bool) : (s.setPin level).cmd = 0 := rfl
@[simp] theorem State.setPin_done (level : Bool) : (s.setPin level).done = false := rfl
@[simp] theorem State.setPin_err (level : Bool) : (s.setPin level).err = false := rfl
@[simp] theorem State.setPin_ovr (level : Bool) : (s.setPin level).ovr = false := rfl
@[simp] theorem State.setPin_tv (level : Bool) : (s.setPin level).tv = false := rfl
@[simp] theorem State.setPin_ecode (level : Bool) : (s.setPin level).ecode = .none := rfl
@[simp] theorem State.setPin_lastop (level : Bool) : (s.setPin level).lastop = 0 := rfl
@[simp] theorem State.setPin_doneIE (level : Bool) : (s.setPin level).doneIE = false := rfl
@[simp] theorem State.setPin_errIE (level : Bool) : (s.setPin level).errIE = false := rfl
@[simp] theorem State.setPin_schedLen (level : Bool) : (s.setPin level).schedLen = 0 := rfl
@[simp] theorem State.setPin_koLen (level : Bool) : (s.setPin level).koLen = 0 := rfl
@[simp] theorem State.setPin_tnum (level : Bool) : (s.setPin level).tnum = 0 := rfl
@[simp] theorem State.setPin_tdir (level : Bool) : (s.setPin level).tdir = false := rfl
@[simp] theorem State.setPin_result (level : Bool) : (s.setPin level).result = 0 := rfl
@[simp] theorem State.setPin_xin (level : Bool) : (s.setPin level).xin = 0 := rfl
@[simp] theorem State.setPin_key (level : Bool) : (s.setPin level).key = Vector.replicate 8 0 := rfl
@[simp] theorem State.setPin_bin (level : Bool) : (s.setPin level).bin = Vector.replicate 4 0 := rfl
@[simp] theorem State.setPin_bout (level : Bool) : (s.setPin level).bout = Vector.replicate 4 0 := rfl
@[simp] theorem State.setPin_seg (level : Bool) : (s.setPin level).seg = Vector.replicate 8 0 := rfl
@[simp] theorem State.setPin_kout (level : Bool) : (s.setPin level).kout = Vector.replicate 8 0 := rfl
@[simp] theorem State.setPin_sched (level : Bool) : (s.setPin level).sched = Vector.replicate 60 0 := rfl
@[simp] theorem State.setPin_trace (level : Bool) : (s.setPin level).trace = Vector.replicate 15 (Vector.replicate 32 0) := rfl
@[simp] theorem State.setPin_pend (level : Bool) : (s.setPin level).pend = none := rfl
@[simp] theorem State.setPin_seq (level : Bool) : (s.setPin level).seq = .start := rfl
@[simp] theorem State.setPin_rstN (level : Bool) : (s.setPin level).rstN = level := rfl
@[simp] theorem State.setPin_rsp (level : Bool) : (s.setPin level).rsp = none := rfl
@[simp] theorem State.setPin_host (level : Bool) : (s.setPin level).host = s.host := rfl
@[simp] theorem State.setPin_turns (level : Bool) : (s.setPin level).turns = s.turns := rfl
@[simp] theorem State.setPin_draws (level : Bool) : (s.setPin level).draws = s.draws := rfl

@[simp] theorem State.setInput_cmd (r : Reg) (v : Word) : (s.setInput r v).cmd = s.cmd := by cases r <;> rfl
@[simp] theorem State.setInput_done (r : Reg) (v : Word) : (s.setInput r v).done = s.done := by cases r <;> rfl
@[simp] theorem State.setInput_err (r : Reg) (v : Word) : (s.setInput r v).err = s.err := by cases r <;> rfl
@[simp] theorem State.setInput_ovr (r : Reg) (v : Word) : (s.setInput r v).ovr = s.ovr := by cases r <;> rfl
@[simp] theorem State.setInput_tv (r : Reg) (v : Word) : (s.setInput r v).tv = s.tv := by cases r <;> rfl
@[simp] theorem State.setInput_ecode (r : Reg) (v : Word) : (s.setInput r v).ecode = s.ecode := by cases r <;> rfl
@[simp] theorem State.setInput_lastop (r : Reg) (v : Word) : (s.setInput r v).lastop = s.lastop := by cases r <;> rfl
@[simp] theorem State.setInput_doneIE (r : Reg) (v : Word) : (s.setInput r v).doneIE = s.doneIE := by cases r <;> rfl
@[simp] theorem State.setInput_errIE (r : Reg) (v : Word) : (s.setInput r v).errIE = s.errIE := by cases r <;> rfl
@[simp] theorem State.setInput_schedLen (r : Reg) (v : Word) : (s.setInput r v).schedLen = s.schedLen := by cases r <;> rfl
@[simp] theorem State.setInput_koLen (r : Reg) (v : Word) : (s.setInput r v).koLen = s.koLen := by cases r <;> rfl
@[simp] theorem State.setInput_tnum (r : Reg) (v : Word) : (s.setInput r v).tnum = s.tnum := by cases r <;> rfl
@[simp] theorem State.setInput_tdir (r : Reg) (v : Word) : (s.setInput r v).tdir = s.tdir := by cases r <;> rfl
@[simp] theorem State.setInput_result (r : Reg) (v : Word) : (s.setInput r v).result = s.result := by cases r <;> rfl
@[simp] theorem State.setInput_bout (r : Reg) (v : Word) : (s.setInput r v).bout = s.bout := by cases r <;> rfl
@[simp] theorem State.setInput_kout (r : Reg) (v : Word) : (s.setInput r v).kout = s.kout := by cases r <;> rfl
@[simp] theorem State.setInput_sched (r : Reg) (v : Word) : (s.setInput r v).sched = s.sched := by cases r <;> rfl
@[simp] theorem State.setInput_trace (r : Reg) (v : Word) : (s.setInput r v).trace = s.trace := by cases r <;> rfl
@[simp] theorem State.setInput_pend (r : Reg) (v : Word) : (s.setInput r v).pend = s.pend := by cases r <;> rfl
@[simp] theorem State.setInput_seq (r : Reg) (v : Word) : (s.setInput r v).seq = s.seq := by cases r <;> rfl
@[simp] theorem State.setInput_rstN (r : Reg) (v : Word) : (s.setInput r v).rstN = s.rstN := by cases r <;> rfl
@[simp] theorem State.setInput_rsp (r : Reg) (v : Word) : (s.setInput r v).rsp = s.rsp := by cases r <;> rfl
@[simp] theorem State.setInput_host (r : Reg) (v : Word) : (s.setInput r v).host = s.host := by cases r <;> rfl
@[simp] theorem State.setInput_turns (r : Reg) (v : Word) : (s.setInput r v).turns = s.turns := by cases r <;> rfl
@[simp] theorem State.setInput_draws (r : Reg) (v : Word) : (s.setInput r v).draws = s.draws := by cases r <;> rfl

@[simp] theorem State.reset_cmd : State.reset.cmd = 0 := rfl
@[simp] theorem State.reset_done : State.reset.done = false := rfl
@[simp] theorem State.reset_err : State.reset.err = false := rfl
@[simp] theorem State.reset_ovr : State.reset.ovr = false := rfl
@[simp] theorem State.reset_tv : State.reset.tv = false := rfl
@[simp] theorem State.reset_ecode : State.reset.ecode = .none := rfl
@[simp] theorem State.reset_lastop : State.reset.lastop = 0 := rfl
@[simp] theorem State.reset_doneIE : State.reset.doneIE = false := rfl
@[simp] theorem State.reset_errIE : State.reset.errIE = false := rfl
@[simp] theorem State.reset_schedLen : State.reset.schedLen = 0 := rfl
@[simp] theorem State.reset_koLen : State.reset.koLen = 0 := rfl
@[simp] theorem State.reset_tnum : State.reset.tnum = 0 := rfl
@[simp] theorem State.reset_tdir : State.reset.tdir = false := rfl
@[simp] theorem State.reset_result : State.reset.result = 0 := rfl
@[simp] theorem State.reset_xin : State.reset.xin = 0 := rfl
@[simp] theorem State.reset_key : State.reset.key = Vector.replicate 8 0 := rfl
@[simp] theorem State.reset_bin : State.reset.bin = Vector.replicate 4 0 := rfl
@[simp] theorem State.reset_bout : State.reset.bout = Vector.replicate 4 0 := rfl
@[simp] theorem State.reset_seg : State.reset.seg = Vector.replicate 8 0 := rfl
@[simp] theorem State.reset_kout : State.reset.kout = Vector.replicate 8 0 := rfl
@[simp] theorem State.reset_sched : State.reset.sched = Vector.replicate 60 0 := rfl
@[simp] theorem State.reset_trace : State.reset.trace = Vector.replicate 15 (Vector.replicate 32 0) := rfl
@[simp] theorem State.reset_pend : State.reset.pend = none := rfl
@[simp] theorem State.reset_seq : State.reset.seq = .start := rfl
@[simp] theorem State.reset_rstN : State.reset.rstN = true := rfl
@[simp] theorem State.reset_rsp : State.reset.rsp = none := rfl
@[simp] theorem State.reset_host : State.reset.host = [] := rfl
@[simp] theorem State.reset_turns : State.reset.turns = [] := rfl
@[simp] theorem State.reset_draws : State.reset.draws = 0 := rfl

end Sys2Proof.Machine
end

