-- ==== Sys2Proof/Laws/Ops.lean ====
section
/-! SUPPORT. What each shared operation can do, said once: a caller cites these instead of unfolding it. -/
namespace Sys2Proof.Machine

@[simp] theorem completed_ok (op : Byte) (s t : State) : completed op s (.ok t) = t.finish op .none := rfl

@[simp] theorem completed_error (op : Byte) (s : State) (e : ErrorCode) : completed op s (.error e) = s.finish op e := rfl

@[simp] theorem complete_eq (op : Byte) (s : State) (o : Except ErrorCode State) :
    complete op s o = .next (completed op s o) := rfl

@[simp] theorem reject_eq (s : State) (w : Word) (e : DecodeError) :
    s.reject w e = s.finish (opField w) (decodeErrorCode e) := rfl

/-- A completion is the completion update after the rule's writes, or after none of them. -/
theorem completed_cases (op : Byte) (s : State) (o : Except ErrorCode State) :
    (∃ t, o = .ok t ∧ completed op s o = t.finish op .none) ∨
      ∃ e, o = .error e ∧ completed op s o = s.finish op e := by
  cases o with
  | ok t => exact .inl ⟨t, rfl, rfl⟩
  | error e => exact .inr ⟨e, rfl, rfl⟩

/-- A word of a bank filled from a list is the list's word, 0 beyond its end. -/
@[simp] theorem fillBank_getElem (n : Nat) (w : List Word) (i : Nat) (h : i < n) : (fillBank n w)[i] = wordAt w i := by
  simp [fillBank]

theorem wordAt_of_length_le (w : List Word) (i : Nat) (h : w.length ≤ i) : wordAt w i = 0 := by
  simp [wordAt, List.getElem?_eq_none h]

/-- A host read answers SLVERR, a draw or the view, and changes nothing else (20 R61). -/
theorem busRead_cases (s : State) (a : Addr) :
    (regAt a = none ∧ s.busRead a = s.respond (.read .slverr 0)) ∨
      (∃ r, regAt a = some r ∧ regClass r = .output ∧ s.busy = true ∧ s.busRead a = s.drawRead) ∨
        ∃ r, regAt a = some r ∧ (regClass r ≠ .output ∨ s.busy = false) ∧
          s.busRead a = s.respond (.read .okay (view s r)) := by
  unfold State.busRead
  split
  · exact .inl ⟨‹_›, rfl⟩
  · rename_i r hr
    split
    · rename_i h
      exact .inr (.inl ⟨r, hr, h.1, h.2, rfl⟩)
    · rename_i h
      refine .inr (.inr ⟨r, hr, ?_, rfl⟩)
      by_cases hc : regClass r = .output
      · exact .inr (by simpa [hc] using h)
      · exact .inl hc

/-- What a write to a register of the window can do (20 R55, R62; 10 R22(b), (c)). -/
theorem writeReg_cases (s : State) (r : Reg) (v : Word) :
    (readOnly r = true ∧ s.writeReg r v = s.respond (.write .slverr)) ∨
      (r = .status ∧ s.writeReg r v = (s.clearStatus v).respond (.write .okay)) ∨
      (r = .irqen ∧ s.writeReg r v = (s.setIrqen v).respond (.write .okay)) ∨
      ((r = .cmd ∨ regClass r = .input) ∧ s.busy = true ∧ s.writeReg r v = s.refuse) ∨
      (r = .cmd ∧ s.busy = false ∧ s.writeReg r v = (s.accept v).respond (.write .okay)) ∨
        (regClass r = .input ∧ s.busy = false ∧ s.writeReg r v = (s.setInput r v).respond (.write .okay)) := by
  cases r <;> cases hb : s.busy <;>
    simp [State.writeReg, State.writeCmd, State.writeInput, readOnly, regClass, hb]

/-- The command that acts at a write is SRST, at its word written to CMD (10 R22(a)). -/
theorem runsAtWrite_eq_some {a : Addr} {v : Word} {i : Instr} (h : runsAtWrite a v = some i) :
    i = .srst ∧ regAt a = some .cmd ∧ v = srstWord := by
  unfold runsAtWrite at h
  split at h
  · rename_i hc
    exact ⟨(by simpa using h.symm), hc⟩
  · cases h

/-- What is in flight is PEND with the reset pin released. -/
theorem inFlight_eq_some {s : State} {w : Word} : s.inFlight = some w ↔ s.rstN = true ∧ s.pend = some w := by
  unfold State.inFlight
  cases s.rstN <;> simp

end Sys2Proof.Machine
end

