-- ==== Sys2Proof/Laws/PerInstr.lean ====
section
/-! SUPPORT. The family EncodedFields: the fields of every command's word are its own and make a legal word. -/
namespace Sys2Proof.Laws.EncodedFields

/-- The word of a command has its opcode, its operands and RSV 0, and is a legal encoding (30 R73, R76). -/
def Statement (i : Sys2Proof.Instr) : Prop :=
  fieldsOf (encode i) = ⟨i.opcode, i.fa, i.fb, 0⟩ ∧ (fieldsOf (encode i)).wf = true

theorem nop : Statement .nop := ⟨fieldsOf_encode _, by rw [fieldsOf_encode]; rfl⟩
theorem gfmul (a b : Byte) : Statement (.gfmul a b) := ⟨fieldsOf_encode _, by rw [fieldsOf_encode]; rfl⟩
theorem sbox (x : Byte) : Statement (.sbox x) := ⟨fieldsOf_encode _, by rw [fieldsOf_encode]; rfl⟩
theorem invsbox (y : Byte) : Statement (.invsbox y) := ⟨fieldsOf_encode _, by rw [fieldsOf_encode]; rfl⟩
theorem rcon (i : Byte) : Statement (.rcon i) := ⟨fieldsOf_encode _, by rw [fieldsOf_encode]; rfl⟩
theorem mixcol : Statement .mixcol := ⟨fieldsOf_encode _, by rw [fieldsOf_encode]; rfl⟩
theorem invmixcol : Statement .invmixcol := ⟨fieldsOf_encode _, by rw [fieldsOf_encode]; rfl⟩
theorem expand (k r : Byte) : Statement (.expand k r) := ⟨fieldsOf_encode _, by rw [fieldsOf_encode]; rfl⟩
theorem derive (n o : Byte) : Statement (.derive n o) := ⟨fieldsOf_encode _, by rw [fieldsOf_encode]; rfl⟩
theorem enc (k b : Byte) : Statement (.enc k b) := ⟨fieldsOf_encode _, by rw [fieldsOf_encode]; rfl⟩
theorem dec (k b : Byte) : Statement (.dec k b) := ⟨fieldsOf_encode _, by rw [fieldsOf_encode]; rfl⟩
theorem enct (k b : Byte) : Statement (.enct k b) := ⟨fieldsOf_encode _, by rw [fieldsOf_encode]; rfl⟩
theorem dect (k b : Byte) : Statement (.dect k b) := ⟨fieldsOf_encode _, by rw [fieldsOf_encode]; rfl⟩
theorem srst : Statement .srst := ⟨fieldsOf_encode _, by rw [fieldsOf_encode]; rfl⟩

end Sys2Proof.Laws.EncodedFields
end

