-- ==== Sys2Proof/Laws/Schedule.lean ====
section
/-! SUPPORT. Lengths in the key schedule and in the traces, one lemma per function. -/
namespace Sys2Proof.Machine

@[simp] theorem expandLoop_length (nk n : Nat) (w : List Word) : (expandLoop nk n w).length = w.length + n := by
  induction n generalizing w with
  | zero => rfl
  | succ n ih => simp [expandLoop, ih]; omega

/-- The loop only appends: the words already there stay. -/
theorem expandLoop_prefix (nk n : Nat) (w : List Word) : ∃ more, expandLoop nk n w = w ++ more := by
  induction n generalizing w with
  | zero => exact ⟨[], by simp [expandLoop]⟩
  | succ n ih =>
    obtain ⟨more, h⟩ := ih (w ++ [nextWord nk w])
    exact ⟨nextWord nk w :: more, by simp [expandLoop, h]⟩

/-- Running the loop for `m + n` words is running it for `m` and then for `n`. -/
theorem expandLoop_add (nk m n : Nat) (w : List Word) :
    expandLoop nk (m + n) w = expandLoop nk n (expandLoop nk m w) := by
  induction m generalizing w with
  | zero => simp [expandLoop]
  | succ m ih => rw [Nat.succ_add]; simp [expandLoop, ih]

@[simp] theorem deriveLoop_length (nk k : Nat) (w : List Word) : (deriveLoop nk k w).length = w.length := by
  induction k generalizing w with
  | zero => rfl
  | succ k ih => simp [deriveLoop, ih]

@[simp] theorem keyWords_length (s : State) (k : KeySize) : (keyWords s k).length = k.nk := by
  cases k <;> simp [keyWords, KeySize.nk]

@[simp] theorem segWords_length (s : State) (k : KeySize) : (segWords s k).length = k.nk := by
  cases k <;> simp [segWords, KeySize.nk]

@[simp] theorem encRounds_length (w : List Word) (n r : Nat) (x : Block) : (encRounds w n r x).1.length = n := by
  induction n generalizing r x with
  | zero => rfl
  | succ n ih => simp [encRounds, ih]

@[simp] theorem decRounds_length (w : List Word) (n : Nat) (x : Block) : (decRounds w n x).1.length = n := by
  induction n generalizing x with
  | zero => rfl
  | succ n ih => simp [decRounds, ih]

/-- A block is its elements (00 R8). -/
theorem block_ext {b b' : Block} (h : ∀ r c, blockAt b r c = blockAt b' r c) : b = b' := by
  obtain ⟨⟨a, e, i, m⟩, ⟨f, j, n, q⟩, ⟨k, o, s, t⟩, ⟨p, u, v, w⟩⟩ := b
  obtain ⟨⟨a', e', i', m'⟩, ⟨f', j', n', q'⟩, ⟨k', o', s', t'⟩, ⟨p', u', v', w'⟩⟩ := b'
  have h0 := fun r => h r 0
  have h1 := fun r => h r 1
  have h2 := fun r => h r 2
  have h3 := fun r => h r 3
  simp only [Block.mk.injEq, Column.mk.injEq]
  exact ⟨⟨h0 0, h0 1, h0 2, h0 3⟩, ⟨h1 0, h1 1, h1 2, h1 3⟩, ⟨h2 0, h2 1, h2 2, h2 3⟩, ⟨h3 0, h3 1, h3 2, h3 3⟩⟩

end Sys2Proof.Machine
end

