-- ==== Sys2Proof/Laws/Step.lean ====
section
/-! SUPPORT. What a step can do, said once (the inversions of exec, of each agent's step and of step). -/
namespace Sys2Proof.Machine

/-- Every command but SRST completes: its meaning is a completion with the command's own OP. -/
theorem exec_completes (i : Instr) (s : State) (h : i ≠ .srst) :
    ∃ o, exec i s = .next (completed i.opcode s o) := by
  cases i <;> first | exact absurd rfl h | exact ⟨_, rfl⟩

/-- What a meaning can do: SRST resets, every other command completes. -/
theorem exec_cases {i : Instr} {s t : State} (h : exec i s = .next t) :
    (i = .srst ∧ t = s.softReset) ∨ (i ≠ .srst ∧ ∃ o, t = completed i.opcode s o) := by
  by_cases hi : i = .srst
  · subst hi
    exact .inl ⟨rfl, by simpa [exec, execSrst] using h.symm⟩
  · obtain ⟨o, ho⟩ := exec_completes i s hi
    exact .inr ⟨hi, o, by simpa [ho] using h.symm⟩

/-- What the engine's step can do: nothing, the meaning of the command in flight, or the rejection of its word. -/
theorem engineStep_cases {s t : State} (h : engineStep s = .next t) :
    (s.inFlight = none ∧ t = s) ∨
      (∃ w i, s.inFlight = some w ∧ decode w = .ok i ∧ exec i s = .next t) ∨
        ∃ w e, s.inFlight = some w ∧ decode w = .error e ∧ t = s.reject w e := by
  unfold engineStep at h
  split at h
  · exact .inl ⟨‹_›, by simpa using h.symm⟩
  · rename_i w hw
    split at h
    · exact .inr (.inl ⟨w, _, hw, ‹_›, h⟩)
    · exact .inr (.inr ⟨w, _, hw, ‹_›, by simpa using h.symm⟩)

/-- What a host's write can do: run SRST, or the effect of 20 R62. -/
theorem writeStep_cases {a : Addr} {v : Word} {s t : State} (h : writeStep a v s = .next t) :
    (regAt a = some .cmd ∧ v = srstWord ∧ t = s.softReset) ∨ (runsAtWrite a v = none ∧ t = s.busWrite a v) := by
  unfold writeStep at h
  split at h
  · rename_i i hi
    obtain ⟨rfl, ha, hv⟩ := runsAtWrite_eq_some hi
    exact .inl ⟨ha, hv, by simpa [exec, execSrst] using h.symm⟩
  · exact .inr ⟨‹_›, by simpa using h.symm⟩

/-- What the host's step can do. -/
theorem hostStep_cases {s t : State} (h : hostStep s = .next t) :
    (s.host = [] ∧ t = s) ∨
      (∃ rest, s.host = .wait :: rest ∧ t = s.poll rest) ∨
      (∃ a rest, s.host = .read a :: rest ∧ s.rstN = true ∧ t = { s with host := rest }.busRead a) ∨
      (∃ a v rest, s.host = .write a v :: rest ∧ s.rstN = true ∧ writeStep a v { s with host := rest } = .next t) ∨
        ∃ op rest, s.host = op :: rest ∧ s.rstN = false ∧ t = { s with host := rest }.noResponse := by
  unfold hostStep at h
  split at h
  · exact .inl ⟨‹_›, by simpa using h.symm⟩
  · exact .inr (.inl ⟨_, ‹_›, by simpa using h.symm⟩)
  · rename_i a rest hh
    cases hr : s.rstN
    · exact .inr (.inr (.inr (.inr ⟨_, rest, hh, rfl, by simpa [hr] using h.symm⟩)))
    · exact .inr (.inr (.inl ⟨a, rest, hh, rfl, by simpa [hr] using h.symm⟩))
  · rename_i a v rest hh
    cases hr : s.rstN
    · exact .inr (.inr (.inr (.inr ⟨_, rest, hh, rfl, by simpa [hr] using h.symm⟩)))
    · exact .inr (.inr (.inr (.inl ⟨a, v, rest, hh, rfl, by simpa [hr] using h⟩)))

/-- What a step can do: the turn taken, and by whom. -/
theorem step_cases {s t : State} (h : step s = .next t) :
    (s.turns = [] ∧ s.inFlight.isSome = true ∧ engineStep s = .next t) ∨
      (s.turns = [] ∧ s.inFlight = none ∧ hostStep s = .next t) ∨
      (∃ rest, s.turns = .host :: rest ∧ hostStep { s with turns := rest } = .next t) ∨
      (∃ rest, s.turns = .engine :: rest ∧ engineStep { s with turns := rest } = .next t) ∨
      (∃ rest, s.turns = .stage :: rest ∧ t = { s with turns := rest }.advanceSeq) ∨
        ∃ level rest, s.turns = .pin level :: rest ∧ t = { s with turns := rest }.drivePin level := by
  unfold step at h
  split at h
  · split at h
    · exact .inl ⟨‹_›, ‹_›, h⟩
    · rename_i ht hf
      exact .inr (.inl ⟨ht, Option.not_isSome_iff_eq_none.mp hf, h⟩)
  · exact .inr (.inr (.inl ⟨_, ‹_›, h⟩))
  · exact .inr (.inr (.inr (.inl ⟨_, ‹_›, h⟩)))
  · exact .inr (.inr (.inr (.inr (.inl ⟨_, ‹_›, by simpa using h.symm⟩))))
  · exact .inr (.inr (.inr (.inr (.inr ⟨_, _, ‹_›, by simpa using h.symm⟩))))

end Sys2Proof.Machine
end

