-- ==== Sys2Proof/Laws/View.lean ====
section
/-! SUPPORT. What the host reads after an operation: which operations leave every register reading as before, and that no
command but SRST touches an input register. -/
namespace Sys2Proof.Machine

/-- The response is no register. -/
@[simp] theorem view_respond (s : State) (x : Response) (r : Reg) : view (s.respond x) r = view s r := by cases r <;> rfl

/-- A draw is no register's value. -/
@[simp] theorem view_drawRead (s : State) (r : Reg) : view s.drawRead r = view s r := by cases r <;> rfl

/-- The host's program is no register. -/
@[simp] theorem view_host (s : State) (l : List HostOp) (r : Reg) : view { s with host := l } r = view s r := by
  cases r <;> rfl

/-- The turns are no register. -/
@[simp] theorem view_turns (s : State) (l : List Turn) (r : Reg) : view { s with turns := l } r = view s r := by
  cases r <;> rfl

/-- An unanswered transaction changes no register. -/
@[simp] theorem view_noResponse (s : State) (r : Reg) : view s.noResponse r = view s r := by cases r <;> rfl

/-- A stage of the sequencer changes no register. -/
@[simp] theorem view_advanceSeq (s : State) (r : Reg) : view s.advanceSeq r = view s r := by cases r <;> rfl

/-- No read has a side effect on a register (20 R63). -/
@[simp] theorem view_busRead (s : State) (a : Addr) (r : Reg) : view (s.busRead a) r = view s r := by
  rcases busRead_cases s a with ⟨_, h⟩ | ⟨_, _, _, _, h⟩ | ⟨_, _, _, h⟩ <;> simp [h]

/-- A poll changes no register. -/
@[simp] theorem view_poll (s : State) (rest : List HostOp) (r : Reg) : view (s.poll rest) r = view s r := by
  unfold State.poll
  split
  · split <;> simp
  · simp

/-- The completion update alone changes no register but STATUS (60 R163). -/
theorem view_finish (s : State) (op : Byte) (e : ErrorCode) (r : Reg) (h : r ≠ .status) :
    view (s.finish op e) r = view s r := by
  cases r <;> first | rfl | exact absurd rfl h

/-- No command but SRST writes an input register (10 R28 to R30, R32). -/
theorem view_input_exec {i : Instr} {s t : State} (hi : i ≠ .srst) (h : exec i s = .next t) (r : Reg)
    (hr : regClass r = .input) : view t r = view s r := by
  cases i <;> simp only [exec, execNop, execGfmul, execSbox, execInvsbox, execRcon, execMixcol, execInvmixcol, execExpand,
    execDerive, execEnc, execDec, execEnct, execDect, complete_eq, Host.Outcome.next.injEq] at h
  all_goals try (exact absurd rfl hi)
  all_goals subst h
  case rcon n => cases r <;> cases checkRcon n <;> first | rfl | cases hr
  case expand n m => cases r <;> cases checkExpand n m <;> first | rfl | cases hr
  case derive n m => cases r <;> cases checkDerive n m <;> first | rfl | cases hr
  case enc n m => cases r <;> cases checkCipher n m <;> first | rfl | cases hr
  case dec n m => cases r <;> cases checkCipher n m <;> first | rfl | cases hr
  case enct n m => cases r <;> cases checkCipher n m <;> first | rfl | cases hr
  case dect n m => cases r <;> cases checkCipher n m <;> first | rfl | cases hr
  all_goals (cases r <;> first | rfl | cases hr)

end Sys2Proof.Machine
end

