-- ==== Sys2Proof/Tests/Slice0.lean ====
section
/-! SUPPORT. Tests on small states, each result from 95_test_vectors.md (V<n>) or from the rule named, and the witnesses: for
every statement with hypotheses, states and operands that meet them, clause by clause, at the ends of their ranges. -/
set_option Elab.async false

namespace Sys2Proof.Tests
open Sys2Proof Sys2Proof.Machine Sys2Proof.Claims

/-- The state an outcome carries, else the one given. -/
def stateOf (s : State) (o : Host.Outcome State Fault Refusal) : State :=
  match o with
  | .next t => t
  | .fault _ => s
  | .refused _ => s

/-- One step that runs a command word. -/
def ran (s : State) (w : Nat) : State := stateOf s (step (s.withFetchWord 32 w))

/-- One step. -/
def stepped (s : State) : State := stateOf s (step s)

/-- The key 000102...1f and the block 00112233...ff of V1 to V3. -/
def katState : State :=
  { State.reset with
    key := #v[0x00010203, 0x04050607, 0x08090a0b, 0x0c0d0e0f, 0x10111213, 0x14151617, 0x18191a1b, 0x1c1d1e1f]
    bin := #v[0x00112233, 0x44556677, 0x8899aabb, 0xccddeeff] }

/-- Reset, with one host transaction whose turn it is. -/
def atHost (s : State) (op : HostOp) : State := { s with turns := [.host], host := [op] }

/-- A check that holds of every entry of a list. -/
def allOf {α : Type} (l : List α) (p : α → Bool) : Bool := l.all p

/-- The words of `banks` of registers of a state. -/
def reads (s : State) (rs : List Reg) : List Word := rs.map (view s)

/-! ## Well-formedness: an ill-formed term for each check -/

theorem test_wf_accepts : (fieldsOf 0x00835701).wf = true := by decide +kernel
theorem test_wf_refuses_unassigned_op : (⟨0x07, 0, 0, 0⟩ : Command).wf = false ∧ (⟨0x07, 0, 0, 0⟩ : Command).opAssigned = false := by decide +kernel
theorem test_wf_refuses_rsv : (⟨0x01, 2, 3, 0x80⟩ : Command).wf = false ∧ (⟨0x01, 2, 3, 0x80⟩ : Command).rsvZero = false := by decide +kernel
theorem test_wf_refuses_unused_fb : (⟨0x02, 0x53, 1, 0⟩ : Command).wf = false ∧ (⟨0x02, 0x53, 1, 0⟩ : Command).unusedZero = false := by decide +kernel
theorem test_wf_refuses_unused_fa : (⟨0x00, 1, 0, 0⟩ : Command).wf = false ∧ (⟨0x00, 1, 0, 0⟩ : Command).unusedZero = false := by decide +kernel
theorem test_asm_refuses_arity : (⟨.mixcol, [1]⟩ : AsmLine).wf = false ∧ (⟨.mixcol, [1]⟩ : AsmLine).arityOk = false := by decide +kernel
theorem test_asm_refuses_value : (⟨.gfmul, [0, 256]⟩ : AsmLine).wf = false ∧ (⟨.gfmul, [0, 256]⟩ : AsmLine).valuesOk = false := by decide +kernel
theorem test_asm_text : assembleText "ENC 16, 15".toList = some 0x000F1020 ∧ assembleText "ENC 16, 256".toList = none ∧
    assembleText "SBOX 0x53".toList = some 0x00005302 := by decide +kernel
/-- Spaces around a field are no part of it (log 17); a space inside one makes it no number (30 R79). -/
theorem test_asm_spaces : assembleText "GFMUL  0x57 ,0x83 ".toList = some 0x00835701 ∧ assembleText "ENC 3 2".toList = none ∧
    assembleText "SBOX 0 x 5 3".toList = none ∧ assembleText "ENC 16,".toList = none := by decide +kernel
/-- 30 R81: the key and the block, ENCT L with L the key's own length, then the reads of TRACE[0][0] to TRACE[14][31]. -/
theorem test_host_traced : (hostEncryptTraced (List.replicate 16 7) (bankToBlock katState.bin)).map (fun p =>
    (p.length, [0, 4, 8, 9, 10, 489].map (p[·]?))) = some (490, [some (.write 0x020 0x07070707), some (.write 0x040 0x00112233),
      some (.write 0x004 0x00101022), some .wait, some (.read 0x800), some (.read 0xF7C)]) := by decide +kernel
/-- 30 R81: a length the engine rejects is run and rejected (L = 5, Nk = 5); one that no field can hold has no program. -/
theorem test_host_lengths :
    (hostDecryptTraced (List.replicate 5 7) (bankToBlock katState.bin)).map (·[5]?) = some (some (.write 0x004 0x00100523)) ∧
    (hostDeriveKey (List.replicate 5 ⟨1, 2, 3, 4⟩) 40).map (fun p => (p.length, p[4]?, p[5]?, p[11]?)) =
      some (12, some (.write 0x070 0x01020304), some (.write 0x004 0x00280511), some (.read 0x090)) ∧
    hostEncrypt (List.replicate 256 7) (bankToBlock katState.bin) = none := by decide +kernel

/-! ## Decoding: each constructor's word, written out bit by bit from 30 R71 (RSV, FB, FA, OP) -/

theorem test_decode_nop : decode 0b00000000000000000000000000000000 = .ok .nop := by decide +kernel
theorem test_decode_gfmul : decode 0b00000000100000110101011100000001 = .ok (.gfmul 0x57 0x83) := by decide +kernel
theorem test_decode_sbox : decode 0b00000000000000000101001100000010 = .ok (.sbox 0x53) := by decide +kernel
theorem test_decode_invsbox : decode 0b00000000000000001110110100000011 = .ok (.invsbox 0xED) := by decide +kernel
theorem test_decode_rcon : decode 0b00000000000000000000101000000100 = .ok (.rcon 10) := by decide +kernel
theorem test_decode_mixcol : decode 0b00000000000000000000000000000101 = .ok .mixcol := by decide +kernel
theorem test_decode_invmixcol : decode 0b00000000000000000000000000000110 = .ok .invmixcol := by decide +kernel
theorem test_decode_expand : decode 0b00000000000010100001000000010000 = .ok (.expand 16 10) := by decide +kernel
theorem test_decode_derive : decode 0b00000000001010000000010000010001 = .ok (.derive 4 40) := by decide +kernel
theorem test_decode_enc : decode 0b00000000000100000001000000100000 = .ok (.enc 16 16) := by decide +kernel
theorem test_decode_dec : decode 0b00000000000011110001100000100001 = .ok (.dec 24 15) := by decide +kernel
theorem test_decode_enct : decode 0b00000000000100000010000000100010 = .ok (.enct 32 16) := by decide +kernel
theorem test_decode_dect : decode 0b00000000000100000010000100100011 = .ok (.dect 33 16) := by decide +kernel
theorem test_decode_srst : decode 0b00000000000000000000000000111111 = .ok .srst := by decide +kernel
theorem test_decode_table_word : decodeTableWord 32 0x00280411 = some (.derive 4 40) ∧ decodeTableWord 32 0x3E = none := by decide +kernel

/-! ## The commands: one step each -/

/-- V26: NOP after reset. -/
theorem test_nop : (let t := ran State.reset 0x00000000; (statusWord t, t.result)) = (0x00000002, 0) := by decide +kernel
/-- V13: the product FF.FF; V24: RSV set. -/
theorem test_gfmul : (let t := ran State.reset 0x00FFFF01; (t.result, statusWord t)) = (0x00000013, 0x01000002) := by decide +kernel
theorem test_gfmul_rsv : (let t := ran State.reset 0x80030201; (t.result, statusWord t)) = (0, 0x01000206) := by decide +kernel
/-- V14. -/
theorem test_sbox : (let t := ran State.reset 0x00008D02; (t.result, statusWord t)) = (0x0000005D, 0x02000002) := by decide +kernel
theorem test_sbox_fb : statusWord (ran State.reset 0x00015302) = 0x02000206 := by decide +kernel
theorem test_invsbox : (let t := ran State.reset 0x00008D03; (t.result, statusWord t)) = (0x000000B4, 0x03000002) := by decide +kernel
/-- V15: the largest index, and index 0. -/
theorem test_rcon : (let t := ran State.reset 0x0000FF04; (t.result, statusWord t)) = (0x8D000000, 0x04000002) := by decide +kernel
theorem test_rcon_zero : (let t := ran State.reset 0x00000004; (t.result, statusWord t)) = (0, 0x04000806) := by decide +kernel
/-- V16. -/
theorem test_mixcol : (let t := ran { State.reset with xin := 0xF20A225C } 0x00000005; (t.result, t.xin, statusWord t)) =
    (0x9FDC589D, 0xF20A225C, 0x05000002) := by decide +kernel
theorem test_invmixcol : (let t := ran { State.reset with xin := 0x2D26314C } 0x00000006; (t.result, statusWord t)) =
    (0xA05050D6, 0x06000002) := by decide +kernel
/-- V18: AES-192 (the identity case of f, w11 = w7) and AES-256 (its second case, w12). -/
theorem test_expand_192 : (let t := ran katState 0x000C1810; (reads t [.sched 6, .sched 11, .sched 12, .sched 51, .sched 52], infoWord t, statusWord t)) =
    ([0x5846f2f9, 0x5c43f4fe, 0x40f949b3, 0xe3a41d5d, 0], 0x00000034, 0x10000002) := by decide +kernel
theorem test_expand_256 : (let t := ran katState 0x000E2010; (reads t [.sched 12, .sched 13, .sched 59], infoWord t)) =
    ([0x1651a8cd, 0x0244beda, 0x6d68de36], 0x0000003C) := by decide +kernel
/-- V19: an offset beyond the standard schedule, and one that is too large. -/
theorem test_derive : (let t := ran { State.reset with seg := #v[0x1a37dadd, 0x004f06d4, 0xc457c4a5, 0x27f3d9f8, 0x667444aa, 0xff5d03ca, 1, 1] } 0x00360611;
    (t.kout.toList, infoWord t)) = ([0x00010203, 0x04050607, 0x08090a0b, 0x0c0d0e0f, 0x10111213, 0x14151617, 0, 0], 0x0000183C) := by decide +kernel
theorem test_derive_offset : statusWord (ran State.reset 0x00390411) = 0x11000606 := by decide +kernel
/-- V1, V2: the known answers; KEY words beyond Nk are ignored. -/
theorem test_enc_128 : (let t := ran katState 0x00101020; (t.bout.toList, statusWord t, infoWord t)) =
    ([0x69c4e0d8, 0x6a7b0430, 0xd8cdb780, 0x70b4c55a], 0x20000002, 0x0000002C) := by decide +kernel
theorem test_enc_192 : (ran katState 0x00101820).bout.toList = [0xdda97ca4, 0x864cdfe0, 0x6eaf70a0, 0xec0d7191] := by decide +kernel
/-- V3 read backward, and V20: DEC under the zero key. -/
theorem test_dec_256 : (ran { katState with bin := #v[0x8ea2b7ca, 0x516745bf, 0xeafc4990, 0x4b496089] } 0x00102021).bout.toList =
    [0x00112233, 0x44556677, 0x8899aabb, 0xccddeeff] := by decide +kernel
theorem test_dec_zero : (ran State.reset 0x00101021).bout.toList = [0x140f0f10, 0x11b5223d, 0x79587717, 0xffd9ec3a] := by decide +kernel
/-- V21: descriptors, a MIX field, absent fields and the entry beyond TNUM. -/
theorem test_enct : (let t := ran katState 0x00101022;
    (statusWord t, infoWord t, reads t [.trace 0 0, .trace 0 7, .trace 9 0, .trace 9 24, .trace 10 0, .trace 10 24, .trace 0 16, .trace 0 28, .trace 11 0])) =
    (0x22000012, 0x000B002C, [0x000E0010, 0xCCDDEEFF, 0x007C0029, 0xe9f74eec, 0x003C003A, 0, 0, 0, 0]) := by decide +kernel
/-- V22. -/
theorem test_dect : (let t := ran { katState with bin := #v[0x69c4e0d8, 0x6a7b0430, 0xd8cdb780, 0x70b4c55a] } 0x00101023;
    (statusWord t, infoWord t, reads t [.trace 0 0, .trace 0 16, .trace 4 0, .trace 4 24, .trace 10 0, .trace 10 15])) =
    (0x23000012, 0x001B002C, [0x003E013A, 0xbd6e7c3d, 0x007C0126, 0xe8dab690, 0x000C0110, 0xccddeeff]) := by decide +kernel
/-- V26: the soft reset abandons the command in flight. -/
theorem test_srst : (let t := stepped (atHost ((State.reset.setIrqen 3).accept 0x00101020) (.write 0x004 0x0000003F));
    (statusWord t, t.cmd, irqenWord t, t.pend, t.rsp)) = (0, 0, 0, none, some (.write .okay)) := by decide +kernel
theorem test_srst_near_word : statusWord (ran State.reset 0x0000013F) = 0x3F000206 := by decide +kernel
/-- V24: an illegal OP comes before RSV. -/
theorem test_illegal_op : statusWord (ran State.reset 0xFF0000FF) = 0xFF000106 := by decide +kernel

/-! ## The bus -/

/-- V25. -/
theorem test_read_reserved : (stepped (atHost State.reset (.read 0x7FC))).rsp = some (.read .slverr 0) := by decide +kernel
theorem test_read_misaligned : (stepped (atHost State.reset (.read 0x002))).rsp = some (.read .slverr 0) := by decide +kernel
theorem test_read_id : (stepped (atHost State.reset (.read 0x000))).rsp = some (.read .okay 0x41455331) := by decide +kernel
theorem test_write_read_only : (let t := stepped (atHost State.reset (.write 0x100 1)); (t.rsp, t.ovr)) = (some (.write .slverr), false) := by decide +kernel
theorem test_write_while_busy : (let t := stepped (atHost ({ State.reset with xin := 0x12345678 }.accept 5) (.write 0x014 0)); (t.xin, statusWord t, t.rsp)) =
    (0x12345678, 0x00000009, some (.write .slverr)) := by decide +kernel
theorem test_draw_while_busy : (let t := stepped (atHost (State.reset.accept 5) (.read 0x010)); (t.rsp, t.draws)) =
    (some (.read .okay (Config.draw 0)), 1) := by rfl
/-- V27: ERR with ERRIE raises the line; clearing ERR lowers it and keeps ECODE. -/
theorem test_irq : (let t := ran (State.reset.setIrqen 2) 0x00000004; (t.irq, (t.clearStatus 4).irq, statusWord (t.clearStatus 4))) =
    (true, false, 0x04000802) := by decide +kernel
/-- V17. -/
theorem test_shift_rows : blockToBank (shiftRows (bankToBlock #v[0x63cab704, 0x0953d051, 0xcd60e0e7, 0xba70e18c])) =
    #v[0x6353e08c, 0x0960e104, 0xcd70b751, 0xbacad0e7] := by decide +kernel

/-! ## Witnesses -/

/-- A command in flight: the state after the word is accepted. -/
def busyWith (w : Word) : State := State.reset.accept w

theorem witness_illegal_opcode :
    allOf [(0x07 : Word), 0x0F, 0x12, 0x1F, 0x24, 0x3E, 0x40, 0xFF] (fun w => decide (IllegalOpcode (opField w) ∧
      (busyWith w).rstN = true ∧ (busyWith w).pend = some w)) = true ∧ State.reset.rstN = true ∧ State.reset.busy = false := by decide +kernel

theorem witness_reserved_fields :
    allOf [(0x01000000 : Word), 0xFF000023, 0x00010002, 0x00FF0004, 0x00000100, 0x00010006, 0x0000FF3F] (fun w =>
      decide (¬ IllegalOpcode (opField w) ∧ ReservedSet w ∧ (busyWith w).rstN = true ∧ (busyWith w).pend = some w)) = true ∧
    ∀ row ∈ opcodeTable, row.accepts row.pattern = true := by decide +kernel

theorem witness_srst_encoding :
    runsAtWrite (offsetOf .cmd) 0x3F = some .srst ∧
    allOf [(0x0000013F : Word), 0x0001003F, 0x0100003F, 0xFFFFFF3F] (fun w => decide (opField w = 0x3F ∧ w ≠ 0x3F ∧
      State.reset.rstN = true ∧ State.reset.busy = false ∧ (busyWith w).rstN = true ∧ (busyWith w).pend = some w ∧ (busyWith w).busy = true)) = true := by
  decide +kernel

theorem witness_step_runs :
    ((busyWith 0).rstN = true ∧ (busyWith 0).pend = some 0 ∧ decode 0 = .ok .nop ∧
      ({ busyWith 0 with turns := [.engine, .host] } : State).turns = .engine :: [.host]) ∧
    HostTurn (atHost (busyWith 0) (.write (offsetOf .cmd) 0x3F)) (.write (offsetOf .cmd) 0x3F) [] [] ∧
    ((busyWith 0).turns = [] ∧ (busyWith 0).busy = true ∧ State.reset.turns = [] ∧ State.reset.rstN = true ∧
      State.reset.busy = false) ∧
    (({ State.reset with turns := [.engine] } : State).turns = .engine :: [] ∧
      ({ State.reset with turns := [.host] } : State).turns = .host :: [] ∧ State.reset.host = []) := by decide +kernel

theorem witness_assembler_operands : (0 : Nat) ≤ 255 ∧ (255 : Nat) ≤ 255 ∧ (⟨.enc, [255]⟩ : AsmLine).wf = true ∧
    ('5' : Char) ≠ ' ' ∧ ('3' : Char) ∈ [' ', '3'] ∧ ('3' : Char) ≠ ' ' := by decide +kernel

theorem witness_bad_accesses :
    ((0x002 : Addr).toNat % 4 ≠ 0 ∧ (0xFFF : Addr).toNat % 4 ≠ 0) ∧
    HostTurn (atHost State.reset (.read 0x002)) (.read 0x002) [] [] ∧
    HostTurn (atHost (busyWith 0) (.write 0xFFF 1)) (.write 0xFFF 1) [] [] ∧
    HostTurn (atHost State.reset (.read 0x01C)) (.read 0x01C) [] [] ∧
    HostTurn (atHost (busyWith 0) (.write 0xFFC 1)) (.write 0xFFC 1) [] [] ∧
    HostTurn (atHost (busyWith 0) (.write (offsetOf (.trace 14 31)) 1)) (.write (offsetOf (.trace 14 31)) 1) [] [] := by decide +kernel

theorem witness_reserved_offsets :
    ∀ a ∈ [(0x01C : Addr), 0x0A0, 0x0FC, 0x1F0, 0x7FC, 0xF80, 0xFFC], ∀ r : Reg, a.toNat ≠ offsetNat r := by
  intro a ha r
  simp only [List.mem_cons, List.not_mem_nil, or_false] at ha
  rcases ha with rfl | rfl | rfl | rfl | rfl | rfl | rfl <;> cases r <;> simp [offsetNat] <;> omega

theorem witness_host_read :
    regAt 0x01C = none ∧ HostTurn (atHost State.reset (.read 0x01C)) (.read 0x01C) [] [] ∧
    (∀ r ∈ [Reg.result, .bout 3, .kout 7, .sched 59, .trace 14 31], regClass r = .output ∧
      (busyWith 0).busy = true ∧ HostTurn (atHost (busyWith 0) (.read (offsetOf r))) (.read (offsetOf r)) [] [] ∧
      State.reset.busy = false ∧ HostTurn (atHost State.reset (.read (offsetOf r))) (.read (offsetOf r)) [] []) ∧
    (∀ r ∈ [Reg.id, .status, .key 7, .seg 0], regClass r ≠ .output ∧
      HostTurn (atHost (busyWith 0) (.read (offsetOf r))) (.read (offsetOf r)) [] []) := by decide +kernel

theorem witness_wait : HostTurn (atHost (busyWith 0) .wait) .wait [] [] ∧ (atHost (busyWith 0) .wait).busy = true ∧
    HostTurn (atHost State.reset .wait) .wait [] [] ∧ (atHost State.reset .wait).busy = false := by decide +kernel

theorem witness_sequencer : (Instr.enc 16 16) ≠ .srst ∧ State.reset.busy = false ∧
    HostTurn (atHost State.reset (.write (offsetOf .cmd) (encode (.enc 16 16)))) (.write (offsetOf .cmd) (encode (.enc 16 16))) [] [] ∧
    (let s : State := { busyWith (encode (.dect 32 16)) with turns := [.stage] };
      s.rstN = true ∧ s.pend = some (encode (.dect 32 16)) ∧ s.turns = .stage :: []) ∧ blockCommand .srst = false := by decide +kernel

theorem witness_command_write :
    allOf [(0x3F : Word), 0, 0xFFFFFFFF] (fun v => decide (HostTurn (atHost State.reset (.write (offsetOf .cmd) v)) (.write (offsetOf .cmd) v) [] [] ∧
      HostTurn (atHost (busyWith 0) (.write (offsetOf .cmd) v)) (.write (offsetOf .cmd) v) [] [])) = true ∧
    State.reset.busy = false ∧ (atHost (busyWith 0) .wait).busy = true := by decide +kernel

theorem witness_status_and_irqen_write :
    HostTurn (atHost (busyWith 0) (.write (offsetOf .status) 0xE)) (.write (offsetOf .status) 0xE) [] [] ∧
    HostTurn (atHost (busyWith 0) (.write (offsetOf .irqen) 0xFFFFFFFF)) (.write (offsetOf .irqen) 0xFFFFFFFF) [] [] := by decide +kernel

theorem witness_input_write :
    ∀ r ∈ [Reg.xin, .key 0, .key 7, .bin 3, .seg 7], regClass r = .input ∧ (atHost (busyWith 0) .wait).busy = true ∧
      HostTurn (atHost (busyWith 0) (.write (offsetOf r) 1)) (.write (offsetOf r) 1) [] [] ∧ (atHost State.reset .wait).busy = false ∧
      HostTurn (atHost State.reset (.write (offsetOf r) 1)) (.write (offsetOf r) 1) [] [] := by decide +kernel

theorem witness_side_effects :
    regAt (offsetOf .xin) ≠ some .cmd ∧ regAt 0xFFC ≠ some .cmd ∧ State.reset.busy = false ∧ (0 : Word) ≠ 0x3F := by decide +kernel

theorem witness_interrupt_line : State.reset.rstN = true ∧ ({ State.reset with rstN := false } : State).rstN = false := by decide +kernel

theorem witness_completion :
    (State.reset.rstN = true ∧ State.reset.busy = false) ∧
    allOf [(0 : Word), 0xFFFFFFFF, 0x00101022] (fun w => decide ((busyWith w).rstN = true ∧ (busyWith w).pend = some w ∧ w ≠ 0x3F)) = true ∧
    decode 0 = .ok .nop ∧ decode 0xFFFFFFFF = .error .illegalOp := by decide +kernel

/-- Each code of 60 R160 is the first error of some word (V24). -/
theorem witness_first_error :
    ([0x00000000, 0xFF0000FF, 0x00010004, 0x00000010, 0x000F1120, 0x00FF0311, 0x00390411, 0x000F1010, 0x00000004].map fun w =>
      firstError (BitVec.ofNat 32 w)) = [0, 1, 2, 3, 4, 5, 6, 7, 8] := by decide +kernel

theorem witness_failed_command :
    (busyWith 0x000F1120).rstN = true ∧ (busyWith 0x000F1120).pend = some 0x000F1120 ∧ (0x000F1120 : Word) ≠ 0x3F ∧
    engineStep (busyWith 0x000F1120) = .next (failure 0x20 .blklen (busyWith 0x000F1120)) ∧
    (failure 0x20 .blklen (busyWith 0x000F1120)).ecode ≠ .none := ⟨rfl, rfl, by decide, rfl, by decide⟩

theorem witness_gfmul_inverse : (1 : Byte) ≠ 0 ∧ (0xFF : Byte) ≠ 0 ∧ gfmul 0x53 0xCA = 1 ∧ gfmul 1 1 = 1 := by decide +kernel

theorem witness_rcon : (1 : Byte) ≠ 0 ∧ (255 : Byte) ≠ 0 := by decide

/-- The words whose opcode each encoding clause is about, legal and not. -/
theorem witness_encoding_clauses :
    ([0x00, 0x01, 0x02, 0x03, 0x04, 0x05, 0x06, 0x10, 0x11, 0x20, 0x21, 0x22, 0x23].map fun w => opField (BitVec.ofNat 32 w)) =
    [0x00, 0x01, 0x02, 0x03, 0x04, 0x05, 0x06, 0x10, 0x11, 0x20, 0x21, 0x22, 0x23] ∧ opField 0xFFFFFF01 = 0x01 := by decide +kernel

theorem witness_expand :
    (KeyLength 16 ∧ KeyLength 24 ∧ KeyLength 32) ∧ (¬ KeyLength 0 ∧ ¬ KeyLength 15 ∧ ¬ KeyLength 17 ∧ ¬ KeyLength 33 ∧ ¬ KeyLength 255) ∧
    (∀ r ∈ [(1 : Byte), 14], 1 ≤ r.toNat ∧ r.toNat ≤ 14) ∧ (∀ r ∈ [(0 : Byte), 15, 255], r.toNat < 1 ∨ 14 < r.toNat) ∧
    (List.replicate 8 (0 : Word)).length = 8 := by decide +kernel

theorem witness_derive :
    allOf [((4 : Byte), (0 : Byte)), (4, 56), (6, 54), (8, 52)] (fun p =>
      decide ((p.1 = 4 ∨ p.1 = 6 ∨ p.1 = 8) ∧ p.2.toNat + p.1.toNat ≤ 60)) = true ∧
    allOf [((4 : Byte), (57 : Byte)), (6, 55), (8, 53), (8, 255)] (fun p =>
      decide ((p.1 = 4 ∨ p.1 = 6 ∨ p.1 = 8) ∧ 60 < p.2.toNat + p.1.toNat)) = true ∧
    ∀ n ∈ [(0 : Byte), 3, 5, 7, 9, 12, 255], ¬ (n = 4 ∨ n = 6 ∨ n = 8) := by decide +kernel

theorem witness_block_checks : (∀ b ∈ [(0 : Byte), 15, 17, 255], b ≠ 16) ∧ ¬ KeyLength 0 ∧ ¬ KeyLength 33 ∧ KeyLength 16 ∧ KeyLength 32 := by
  decide +kernel

theorem witness_frames :
    exec (.gfmul 2 3) State.reset = .next (stateOf State.reset (exec (.gfmul 2 3) State.reset)) ∧
    exec .nop State.reset = .next (stateOf State.reset (exec .nop State.reset)) ∧
    exec (.expand 16 1) State.reset = .next (stateOf State.reset (exec (.expand 16 1) State.reset)) ∧
    exec (.derive 4 0) State.reset = .next (stateOf State.reset (exec (.derive 4 0) State.reset)) ∧
    exec (.enc 16 16) State.reset = .next (stateOf State.reset (exec (.enc 16 16) State.reset)) ∧
    exec (.dect 16 16) State.reset = .next (stateOf State.reset (exec (.dect 16 16) State.reset)) ∧
    (gfCommand (.gfmul 2 3) = true ∧ keyCommand (.expand 16 1) = true ∧ keyCommand (.derive 4 0) = true ∧
      blockCommand (.enc 16 16) = true ∧ tracedCommand (.enc 16 16) = false ∧ blockCommand (.dect 16 16) = true ∧
      tracedCommand (.dect 16 16) = true ∧ (stateOf State.reset (exec (.enc 16 16) State.reset)).ecode = .none) :=
  ⟨rfl, rfl, rfl, rfl, rfl, rfl, by decide +kernel⟩

/-- An idle engine's input write, a completion, a soft reset and the pin each change a register. -/
theorem witness_changes :
    let w := atHost State.reset (.write 0x014 1)
    let c := ran State.reset 0x00000204
    let r := atHost c (.write 0x004 0x3F)
    let p := { c with turns := [.pin false] }
    (w.pend ≠ some 0x3F ∧ (busyWith 0x204).pend ≠ some 0x3F ∧ r.pend ≠ some 0x3F ∧ p.pend ≠ some 0x3F) ∧
      (step w = .next (stepped w) ∧ view (stepped w) .xin ≠ view w .xin ∧ regClass .xin = .input) ∧
      (step (busyWith 0x204) = .next (stepped (busyWith 0x204)) ∧ readOnly .result = true ∧
        view (stepped (busyWith 0x204)) .result ≠ view (busyWith 0x204) .result) ∧
      (step r = .next (stepped r) ∧ view (stepped r) .result ≠ view r .result) ∧
      (step p = .next (stepped p) ∧ view (stepped p) .result ≠ view p .result) :=
  ⟨by decide +kernel, ⟨rfl, by decide +kernel⟩, ⟨rfl, by decide +kernel⟩, ⟨rfl, by decide +kernel⟩, rfl, by decide +kernel⟩

theorem witness_gfmul_laws : (0x53 : Byte) ≠ 0 ∧ gfmul 0x53 0xCA = 1 ∧ (1 : Nat) ≤ 1 ∧ (255 : Nat) ≥ 1 := by decide +kernel

theorem witness_schedule_lengths :
    (∀ n ∈ [4, 6, 8], (List.replicate n (0 : Word)).length = 4 ∨ (List.replicate n (0 : Word)).length = 6 ∨ (List.replicate n (0 : Word)).length = 8) ∧
    (1 : Nat) ≤ 1 ∧ (4 : Nat) ≤ 4 ∧ 4 < 4 * (1 + 1) ∧ 0 + 4 ≤ 4 * (0 + 1) ∧ 52 + 8 ≤ 4 * (14 + 1) ∧ 4 ≤ 59 ∧ 59 < 56 + 4 := by decide +kernel

/-- An index for each case of f, at the ends of the schedules of each key length. -/
theorem witness_sched_cases :
    (4 % 4 = 0 ∧ 54 % 6 = 0 ∧ 56 % 8 = 0) ∧ (12 % 8 ≠ 0 ∧ 6 < 8 ∧ 12 % 8 = 4 ∧ 52 % 8 = 4) ∧
      (59 % 4 ≠ 0 ∧ ¬ (6 < 4 ∧ 59 % 4 = 4)) ∧ (10 % 6 ≠ 0 ∧ 10 % 6 = 4 ∧ ¬ 6 < 6) ∧ (9 % 8 ≠ 0 ∧ ¬ (6 < 8 ∧ 9 % 8 = 4)) := by decide

/-- The unused entries of each key length, first and last; AES-256 leaves none. -/
theorem witness_unused_entries :
    (KeyLength 16 ∧ nrOf 16 < (11 : Fin 15).val ∧ nrOf 16 < (14 : Fin 15).val) ∧
      (KeyLength 24 ∧ nrOf 24 < (13 : Fin 15).val ∧ nrOf 24 < (14 : Fin 15).val) := by decide +kernel

/-- A one-round and a ten-round run have the entries the round clauses speak of. -/
theorem witness_rounds :
    let e := (encrypt (inputBlock katState) (keyWords katState .k128) 10).trace
    let d := (decrypt (inputBlock katState) (keyWords katState .k128) 10).trace
    (e[0]?.isSome = true ∧ e[8]?.isSome = true ∧ e[9]?.isSome = true ∧ e[10]?.isSome = true) ∧
      ((d[0]?.bind (·.sub)).isSome = true ∧ (d[8]?.bind (·.sub)).isSome = true ∧ (d[9]?.bind (·.sub)).isSome = true ∧ d[10]?.isSome = true) ∧
      (1 : Nat) ≤ 1 ∧ 1 < 10 ∧ 9 < 10 := by decide +kernel

/-- The mirror's hypotheses at the first and the last round. -/
theorem witness_mirror :
    let run := encrypt (inputBlock katState) (keyWords katState .k128) 10
    let d := (decrypt run.result (keyWords katState .k128) 10).trace
    ∀ r ∈ [1, 10], 1 ≤ r ∧ r ≤ 10 ∧ run.trace[r]?.isSome = true ∧ run.trace[r - 1]?.isSome = true ∧ d[10 - r]?.isSome = true := by
  decide +kernel

theorem witness_known_answers :
    katState.key = #v[0x00010203, 0x04050607, 0x08090a0b, 0x0c0d0e0f, 0x10111213, 0x14151617, 0x18191a1b, 0x1c1d1e1f] ∧
    katState.bin = #v[0x00112233, 0x44556677, 0x8899aabb, 0xccddeeff] ∧
    ∀ b : Vector Word 4, ({ katState with bin := b } : State).key = katState.key ∧ ({ katState with bin := b } : State).bin = b :=
  ⟨rfl, rfl, fun _ => ⟨rfl, rfl⟩⟩

/-- The trace of an AES-256 run meets the trace statements' hypotheses: its first and last entries, a present and an absent field. -/
theorem witness_trace :
    let t := (encrypt (inputBlock katState) (keyWords katState .k256) 14).trace
    t.length ≤ 15 ∧ (∀ snap ∈ t, snap.round ≤ 14) ∧ t[0]?.isSome = true ∧ t[14]?.isSome = true ∧
      (t[0]?.bind fun e => snapshotField e 1).isSome = true ∧ (t[0]?.map fun e => (snapshotField e 4).isNone) = some true ∧
      ([] : List Snapshot)[(14 : Fin 15).val]? = none ∧ State.reset.tv = false := by decide +kernel

/-- Rows, bytes of a block, and the first and last round key of the longest schedule. -/
theorem witness_round_transforms : (0 : Nat) < 4 ∧ (3 : Nat) < 4 ∧ (0 : Nat) < 16 ∧ (15 : Nat) < 16 ∧
    4 * 0 + 3 < (List.replicate 60 (0 : Word)).length ∧ 4 * 14 + 3 < (List.replicate 60 (0 : Word)).length := by decide

theorem witness_reset_pin :
    ({ busyWith 0 with turns := [.pin false] } : State).turns = .pin false :: [] ∧
    ({ State.reset with rstN := false, turns := [.pin true] } : State).turns = .pin true :: [] ∧
    ({ State.reset with rstN := false, turns := [.engine] } : State).turns = .engine :: [] ∧
    ({ State.reset with rstN := false, turns := [.stage] } : State).turns = .stage :: [] ∧
    ({ State.reset with rstN := false } : State).turns = [] ∧ ({ State.reset with rstN := false } : State).host = [] ∧
    (atHost { State.reset with rstN := false } (.read 0)).turns = .host :: [] ∧
    (atHost { State.reset with rstN := false } (.read 0)).rstN = false ∧
    (atHost { State.reset with rstN := false } (.read 0)).host = .read 0 :: [] ∧ HostOp.read 0 ≠ .wait ∧
    (atHost { State.reset with rstN := false } .wait).host = .wait :: [] := by decide +kernel

/-- A legal state of each sort: idle after reset, busy with a block command, after a traced run, held in reset; each steps on. -/
theorem witness_legal :
    (∀ s ∈ [State.reset, busyWith 0x00101022, ran katState 0x00102023, { State.reset with rstN := false }], Legal s) ∧
    step State.reset = .next State.reset ∧ step (busyWith 0) = .next (stepped (busyWith 0)) := ⟨by decide +kernel, rfl, rfl⟩

/-- A busy engine refuses a write and stays busy; an idle one becomes busy at an accepted write; an abandoned one is not. -/
theorem witness_frozen :
    (atHost (busyWith 0) (.write 0x014 1)).busy = true ∧
    step (atHost (busyWith 0) (.write 0x014 1)) = .next (stepped (atHost (busyWith 0) (.write 0x014 1))) ∧
    (stepped (atHost (busyWith 0) (.write 0x014 1))).busy = true ∧
    (atHost State.reset (.write 0x004 0)).busy = false ∧
    step (atHost State.reset (.write 0x004 0)) = .next (stepped (atHost State.reset (.write 0x004 0))) ∧
    (stepped (atHost State.reset (.write 0x004 0))).busy = true := ⟨rfl, rfl, rfl, rfl, rfl, rfl⟩

theorem witness_command_ends :
    ({ busyWith 0 with turns := [.host, .stage, .host] } : State).busy = true ∧
    ({ busyWith 0 with turns := [.host, .stage, .host] } : State).rstN = true := by decide +kernel

theorem witness_same_operands :
    SameInputs State.reset (State.reset.setResult 5) ∧ (Instr.rcon 1) ≠ .srst ∧
    exec (.rcon 1) State.reset = .next (stateOf State.reset (exec (.rcon 1) State.reset)) ∧
    exec (.rcon 1) (State.reset.setResult 5) = .next (stateOf State.reset (exec (.rcon 1) (State.reset.setResult 5))) ∧
    (∀ i ∈ [Instr.rcon 1, .expand 32 14, .derive 8 52, .enc 16 16, .dect 32 16], (stateOf State.reset (exec i State.reset)).ecode = .none) :=
  ⟨by decide +kernel, by decide, rfl, rfl, by decide +kernel⟩

end Sys2Proof.Tests
end

section
/-! PROOF. The register window and the steps of `step`, said once: an offset and its register determine each other (20 R52 to
R54), and one equation per turn and per line of the host's program. -/
namespace Sys2Proof.Machine
open Sys2Proof.Claims

/-- Every offset fits in the 12 bits of an address (20 R50). -/
theorem offsetOf_toNat (r : Reg) : (offsetOf r).toNat = offsetNat r := by
  cases r <;> simp [offsetOf, offsetNat] <;> omega

/-- A register stands at its own offset. -/
@[simp] theorem regAt_offsetOf (r : Reg) : regAt (offsetOf r) = some r := by
  simp only [regAt, offsetOf_toNat, ne_eq, ite_not]
  generalize hn : offsetNat r = n
  cases r with
  | id | cmd | status | irqen | result | xin | info => subst hn; rfl
  | key i | bin i | bout i | seg i | kout i | sched i =>
    have hi := i.isLt
    simp only [offsetNat] at hn
    rw [if_pos (by omega)]
    repeat rw [if_neg (by omega)]
    rw [if_pos (by omega)]
    congr 2
    apply Fin.ext
    simp only [Fin.ofNat]
    omega
  | trace e w =>
    have he := e.isLt
    have hw := w.isLt
    simp only [offsetNat] at hn
    rw [if_pos (by omega)]
    repeat rw [if_neg (by omega)]
    rw [if_pos (by omega)]
    congr 2 <;> apply Fin.ext <;> simp only [Fin.ofNat] <;> omega

/-- Only a register's own offset holds it. -/
theorem eq_offsetOf_of_regAt {a : Addr} {r : Reg} (h : regAt a = some r) : a = offsetOf r := by
  suffices hn : a.toNat = offsetNat r by rw [offsetOf, ← hn]; simp
  simp only [regAt, ne_eq, ite_not] at h
  generalize a.toNat = n at h ⊢
  repeat' (rw [ite_eq_iff] at h; obtain ⟨_, h⟩ | ⟨_, h⟩ := h)
  all_goals cases h
  all_goals (simp only [offsetNat, Fin.ofNat]; omega)

/-! The equations of `step` and of `hostStep`: one per turn and one per line of the host's program. -/

section
variable {s : State} {ts : List Turn} {rest : List HostOp}

theorem step_of_turns_nil (h : s.turns = []) : step s = if s.inFlight.isSome then engineStep s else hostStep s := by
  simp only [step, h]

theorem step_of_turns_host (h : s.turns = .host :: ts) : step s = hostStep { s with turns := ts } := by
  simp only [step, h]

theorem step_of_turns_engine (h : s.turns = .engine :: ts) : step s = engineStep { s with turns := ts } := by
  simp only [step, h]

theorem step_of_turns_stage (h : s.turns = .stage :: ts) : step s = .next { s with turns := ts }.advanceSeq := by
  simp only [step, h]

theorem step_of_turns_pin {level : Bool} (h : s.turns = .pin level :: ts) :
    step s = .next ({ s with turns := ts }.drivePin level) := by
  simp only [step, h]

theorem hostStep_of_host_nil (h : s.host = []) : hostStep s = .next s := by
  simp only [hostStep, h]

theorem hostStep_of_host_wait (h : s.host = .wait :: rest) : hostStep s = .next (s.poll rest) := by
  simp only [hostStep, h]

theorem hostStep_of_host_read {a : Addr} (h : s.host = .read a :: rest) :
    hostStep s = .next (if s.rstN then { s with host := rest }.busRead a else { s with host := rest }.noResponse) := by
  simp only [hostStep, h]

theorem hostStep_of_host_write {a : Addr} {v : Word} (h : s.host = .write a v :: rest) :
    hostStep s = if s.rstN then writeStep a v { s with host := rest } else .next { s with host := rest }.noResponse := by
  simp only [hostStep, h]

end

/-- On the host's turn its next transaction, a write, is performed. -/
theorem step_of_hostTurn_write {s : State} {a : Addr} {v : Word} {ts : List Turn} {rest : List HostOp}
    (h : HostTurn s (.write a v) ts rest) : step s = writeStep a v { s with turns := ts, host := rest } := by
  obtain ⟨hpin, hhost, hturns⟩ := h
  rw [step_of_turns_host hturns, hostStep_of_host_write (s := { s with turns := ts }) hhost, if_pos hpin]

/-- The SRST word written to CMD is the soft reset (10 R22(a)). -/
theorem writeStep_srst (s : State) : writeStep (offsetOf .cmd) srstWord s = .next s.softReset := by
  simp [writeStep, runsAtWrite, exec, execSrst]

/-- Every other write is the register's (20 R62). -/
theorem writeStep_offsetOf {r : Reg} {v : Word} (h : r ≠ .cmd ∨ v ≠ srstWord) (s : State) :
    writeStep (offsetOf r) v s = .next (s.writeReg r v) := by
  have hrun : runsAtWrite (offsetOf r) v = none := by
    simp only [runsAtWrite, regAt_offsetOf, Option.some.injEq]
    exact if_neg fun ⟨hr, hv⟩ => h.elim (· hr) (· hv)
  simp [writeStep, hrun, State.busWrite]

end Sys2Proof.Machine
end

section
/-! PROOF. STATUS, INFO and IRQEN bit by bit, and the writes to the control registers (10 R22 to R26). -/
namespace Sys2Proof.Machine
open Sys2Proof.Claims

@[simp] theorem bitAt_getElem (b : Bool) (k i : Nat) (h : i < 32) : (bitAt b k)[i] = (b && decide (i = k)) := by
  cases b
  · simp [bitAt]
  · simp only [bitAt, if_true, BitVec.getElem_shiftLeft]
    grind

@[simp] theorem statusWord_getElem (s : State) (i : Nat) (hi : i < 32) :
    (statusWord s)[i] =
      (s.busy && decide (i = 0) || s.done && decide (i = 1) || s.err && decide (i = 2) || s.ovr && decide (i = 3) ||
        s.tv && decide (i = 4) || decide (8 ≤ i) && (errorNumber s.ecode).getLsbD (i - 8) ||
        decide (24 ≤ i) && s.lastop.getLsbD (i - 24)) := by
  simp [statusWord, ← decide_not]

@[simp] theorem infoWord_getElem (s : State) (i : Nat) (hi : i < 32) :
    (infoWord s)[i] =
      (s.schedLen.getLsbD i || decide (8 ≤ i) && s.koLen.getLsbD (i - 8) ||
        decide (16 ≤ i) && s.tnum.getLsbD (i - 16) || s.tdir && decide (i = 20)) := by
  simp [infoWord, ← decide_not]

@[simp] theorem irqenWord_getElem (s : State) (i : Nat) (hi : i < 32) :
    (irqenWord s)[i] = (s.doneIE && decide (i = 0) || s.errIE && decide (i = 1)) := by
  simp [irqenWord]

/-- The fields of STATUS that are wider than a bit, and its reserved bits (10 R23). -/
theorem statusWord_extracts (s : State) :
    (statusWord s).extractLsb' 5 3 = 0 ∧ (statusWord s).extractLsb' 8 4 = errorNumber s.ecode ∧
      (statusWord s).extractLsb' 12 12 = 0 ∧ (statusWord s).extractLsb' 24 8 = s.lastop := by
  refine ⟨?_, ?_, ?_, ?_⟩
  all_goals
    ext i hi
    rw [BitVec.getElem_extractLsb']
    interval_cases i <;> simp [BitVec.getLsbD_eq_getElem]

/-- The fields of INFO that are wider than a bit, and its reserved bits (10 R26). -/
theorem infoWord_extracts (s : State) :
    (infoWord s).extractLsb' 0 8 = s.schedLen ∧ (infoWord s).extractLsb' 8 8 = s.koLen ∧
      (infoWord s).extractLsb' 16 4 = s.tnum ∧ (infoWord s).extractLsb' 21 11 = 0 := by
  refine ⟨?_, ?_, ?_, ?_⟩
  all_goals
    ext i hi
    rw [BitVec.getElem_extractLsb']
    interval_cases i <;> simp [BitVec.getLsbD_eq_getElem]

/-- Settles O16: the one-bit fields by the words' bits, the wider ones bit by bit. -/
theorem statusAndInfoFields : Obligations.StatusAndInfoFields := by
  intro s
  obtain ⟨hrsv, hcode, hrsv', hlastop⟩ := statusWord_extracts s
  obtain ⟨hsched, hko, htnum, hrsv''⟩ := infoWord_extracts s
  have hbit : (statusWord s).getLsbD 0 = s.busy ∧ (statusWord s).getLsbD 1 = s.done ∧ (statusWord s).getLsbD 2 = s.err ∧
      (statusWord s).getLsbD 3 = s.ovr ∧ (statusWord s).getLsbD 4 = s.tv := by simp
  have htdir : (infoWord s).getLsbD 20 = s.tdir := by simp
  obtain ⟨hbusy, hdone, herr, hovr, htv⟩ := hbit
  exact ⟨hbusy, hdone, herr, hovr, htv, hrsv, hcode, hrsv', hlastop, hsched, hko, htnum, htdir, hrsv''⟩

/-- Settles O11: the SRST word runs at the write, any other word goes through the write of CMD, which asks for BUSY. -/
theorem commandWrite : Obligations.CommandWrite := by
  intro s v ts rest h
  rw [step_of_hostTurn_write h]
  refine ⟨?_, ?_, ?_⟩
  · rintro rfl
    exact writeStep_srst _
  · intro hv hb
    refine ⟨_, firstStageOf v, writeStep_offsetOf (.inr hv) _, ?_⟩
    have hidle : State.busy { s with turns := ts, host := rest } = false := hb
    simp only [State.writeReg, State.writeCmd, hidle]
    exact ⟨rfl, rfl, rfl⟩
  · intro hv hb
    have hbusy : State.busy { s with turns := ts, host := rest } = true := hb
    rw [writeStep_offsetOf (.inr hv)]
    simp only [State.writeReg, State.writeCmd, hbusy]
    rfl

/-- Settles O12: a W1C bit is the old bit where 0 is written. -/
theorem statusWriteClears : Obligations.StatusWriteClears := by
  intro s v ts rest h
  have w1c : ∀ b c : Bool, (b && !c) = if c then false else b := by decide
  rw [step_of_hostTurn_write h, writeStep_offsetOf (.inl (by decide))]
  simp only [State.writeReg, State.clearStatus, w1c]
  rfl

/-- The mask of IRQEN's two bits. -/
theorem irqenMask_getElem : ∀ i (h : i < 32), (3 : Word)[i] = (decide (i = 0) || decide (i = 1)) := by decide

/-- Settles O13: IRQEN's word has two bits, compared with the mask bit by bit. -/
theorem irqenWrite : Obligations.IrqenWrite := by
  constructor
  · intro s v ts rest h
    rw [step_of_hostTurn_write h, writeStep_offsetOf (.inl (by decide))]
    refine ⟨_, rfl, ?_, rfl⟩
    ext i hi
    simp only [State.writeReg, view, irqenWord_getElem, State.respond_doneIE, State.respond_errIE, State.setIrqen_doneIE,
      State.setIrqen_errIE, BitVec.getElem_and, irqenMask_getElem i hi]
    rcases i with _ | _ | i <;> simp
  · intro s
    refine ⟨by simp [view], by simp [view], ?_⟩
    ext i hi
    simp only [view, BitVec.getElem_and, irqenWord_getElem, irqenMask_getElem i hi]
    rcases i with _ | _ | i <;> simp

end Sys2Proof.Machine
end

section
/-! PROOF. What reset leaves (10 R42). -/
namespace Sys2Proof.Machine
open Sys2Proof.Claims

/-- An engine at its reset values reads as 10 R42 says, whatever stands outside it. -/
theorem holdsResetValues_resetEngine (s : State) : HoldsResetValues s.resetEngine := by
  have hid : ∀ r : Reg, r ≠ .id → view s.resetEngine r = 0 := by
    intro r hr
    cases r with
    | id => exact absurd rfl hr
    | cmd | result | xin => rfl
    | status | irqen | info => simp [view, statusWord, irqenWord, infoWord, bitAt, State.busy, errorNumber]
    | key i | bin i | bout i | seg i | kout i => simp [view]
    | sched i => simp [view, schedView]
    | trace e w => simp [view, traceView]
  refine ⟨fun r => ?_, rfl, rfl, rfl, rfl, by simp [State.irq]⟩
  split
  · subst r; rfl
  · exact hid r ‹_›

/-- The response of a transaction is no part of the reset values. -/
theorem holdsResetValues_respond {s : State} (h : HoldsResetValues s) (x : Response) : HoldsResetValues (s.respond x) := by
  obtain ⟨hview, rest⟩ := h
  exact ⟨fun r => by rw [view_respond, hview], rest⟩

/-- Settles O50: State.reset and the state after SRST are both engines at their reset values. -/
theorem resetValues : Obligations.ResetValues :=
  ⟨holdsResetValues_resetEngine State.reset,
    fun s => ⟨s.softReset, rfl, holdsResetValues_respond (holdsResetValues_resetEngine s) _⟩⟩

/-- An engine at its reset values is legal; while the pin is low there must be no response either. -/
theorem legal_resetEngine {s : State} (hrsp : s.rstN = false → s.rsp = none) : Legal s.resetEngine := by
  have hsched : SchedLegal s.resetEngine := ⟨by simp, fun i _ => by simp⟩
  have hkout : KoutLegal s.resetEngine := ⟨.inl rfl, fun j _ => by simp⟩
  exact ⟨.inl rfl, nofun, nofun, ⟨fun _ => rfl, rfl⟩, hsched, hkout, ⟨nofun, fun _ => ⟨rfl, rfl⟩⟩, fun h => ⟨rfl, hrsp h⟩⟩

/-- Settles O54: the state after reset is an engine at its reset values, with the pin released. -/
theorem resetIsLegal : Obligations.ResetIsLegal := legal_resetEngine (s := State.reset) nofun

end Sys2Proof.Machine
end

section
/-! PROOF. The frame of the GF commands and of NOP (10 R27, 43 R150). -/
namespace Sys2Proof.Machine
open Sys2Proof.Claims

/-- RESULT is the one register that reads differently after a write of it. -/
theorem view_setResult (s : State) (v : Word) (r : Reg) (h : r ≠ .result) : view (s.setResult v) r = view s r := by
  cases r <;> first | rfl | exact absurd rfl h

/-- What a GF command or NOP does: the completion update, after a write of RESULT by a GF command that succeeds. -/
theorem exec_gf_or_nop {i : Instr} {s t : State} (hi : gfCommand i = true ∨ i = .nop) (h : exec i s = .next t) :
    (∃ e, t = s.finish i.opcode e) ∨ (i ≠ .nop ∧ ∃ v, t = (s.setResult v).finish i.opcode .none) := by
  cases i with
  | nop => exact .inl ⟨.none, by cases h; rfl⟩
  | gfmul | sbox | invsbox | mixcol | invmixcol => exact .inr ⟨nofun, _, by cases h; rfl⟩
  | rcon n =>
    cases hn : checkRcon n with
    | ok k => exact .inr ⟨nofun, packWord (rconColumn k), by simpa [exec, execRcon, hn, Except.map] using h.symm⟩
    | error e => exact .inl ⟨e, by simpa [exec, execRcon, hn, Except.map] using h.symm⟩
  | _ => simp [gfCommand] at hi

/-- Settles O32: the completion update touches STATUS alone, the write before it RESULT alone. -/
theorem gfAndNopFrame : Obligations.GfAndNopFrame := by
  intro i s t hi h
  obtain ⟨e, rfl⟩ | ⟨hnop, v, rfl⟩ := exec_gf_or_nop hi h
  · exact ⟨fun r hst _ => view_finish s _ _ r hst, fun _ => rfl, rfl, rfl, rfl, rfl, rfl, rfl, rfl⟩
  · refine ⟨fun r hst hres => ?_, fun h => absurd h hnop, rfl, rfl, rfl, rfl, rfl, rfl, rfl⟩
    rw [view_finish _ _ _ r hst, view_setResult s v r hres]

end Sys2Proof.Machine
end

section
/-! PROOF. What the host reads from a recorded trace (10 R36 to R38, 42 R139). -/
namespace Sys2Proof.Machine
open Sys2Proof.Claims

/-- A fold that sets bit `16 + slot` for the slots of a list that satisfy `p`, bit by bit. -/
theorem foldl_setBit_getLsbD (p : Nat → Bool) (l : List Nat) (acc : Word) (k : Nat) :
    (l.foldl (fun acc slot => if p slot then acc ||| ((1 : Word) <<< (16 + slot)) else acc) acc).getLsbD k =
      (acc.getLsbD k || l.any fun slot => p slot && decide (k = 16 + slot ∧ k < 32)) := by
  induction l generalizing acc with
  | nil => simp
  | cons a l ih =>
    have hone : ((1 : Word) <<< (16 + a)).getLsbD k = decide (k = 16 + a ∧ k < 32) := by
      simp only [BitVec.getLsbD_shiftLeft]
      grind
    rw [List.foldl_cons, ih, List.any_cons, ← hone]
    cases p a <;> simp [-BitVec.getLsbD_shiftLeft, Bool.or_assoc]

/-- PRESENT, slot by slot (10 R36). -/
theorem presentBits_getLsbD (e : Snapshot) {slot : Nat} (h1 : 1 ≤ slot) (h6 : slot ≤ 6) :
    (presentBits e).getLsbD (16 + slot) = (snapshotField e slot).isSome := by
  rw [presentBits, foldl_setBit_getLsbD fun slot => (snapshotField e slot).isSome]
  interval_cases slot <;> simp

/-- The PRESENT bits of a stored descriptor tell which fields the snapshot carries (10 R36). -/
theorem presentBit_descriptorWord (d : Dir) {e : Snapshot} {slot : Nat} (hr : e.round ≤ 14) (h1 : 1 ≤ slot) (h6 : slot ≤ 6) :
    presentBit (descriptorWord d e) slot = (snapshotField e slot).isSome := by
  have low (n k : Nat) (hn : n < 2 ^ 4) (hk : 4 ≤ k) : n.testBit k = false :=
    Nat.testBit_lt_two_pow (hn.trans_le (Nat.pow_le_pow_right (by decide) hk))
  have hround := low e.round (16 + slot) (by omega) (by omega)
  have hkind := low (kindCode e.kind) (16 + slot - 4) (by cases e.kind <;> decide) (by omega)
  have hdir := low (dirCode d) (16 + slot - 8) (by cases d <;> decide) (by omega)
  rw [presentBit, descriptorWord, BitVec.getLsbD_or, presentBits_getLsbD e h1 h6]
  simp only [BitVec.getLsbD_or, BitVec.getLsbD_shiftLeft, BitVec.getLsbD_ofNat, hround, hkind, hdir]
  simp

/-- Word `c` of sub-slot `slot` is the field's word, 0 where the snapshot has no such field (42 R139). -/
theorem entryWord_slot (d : Dir) (e : Snapshot) (slot : Fin 8) (c : Fin 4) (h1 : 1 ≤ slot.val) :
    entryWord d e (Fin.ofNat 32 (4 * slot.val + c.val)) = (snapshotField e slot.val).elim 0 fun b => blockWord b c := by
  have hw : (Fin.ofNat 32 (4 * slot.val + c.val)).val = 4 * slot.val + c.val := by simp [Fin.ofNat]; omega
  have hdiv : (4 * slot.val + c.val) / 4 = slot.val := by omega
  have hmod : (4 * slot.val + c.val) % 4 = c.val := by omega
  simp only [entryWord, hw, hdiv, hmod]
  rw [if_neg (by omega)]
  cases snapshotField e slot.val <;> rfl

/-- Words 1 to 3 of an entry are 0 (10 R36). -/
theorem entryWord_reserved (d : Dir) (e : Snapshot) (w : Fin 32) (h : 1 ≤ w.val ∧ w.val ≤ 3) : entryWord d e w = 0 := by
  have hdiv : w.val / 4 = 0 := by omega
  rw [entryWord, if_neg (by omega), hdiv]
  rfl

theorem traceWords_getElem_of_some {d : Dir} {t : List Snapshot} {e : Fin 15} {snap : Snapshot} (h : t[e.val]? = some snap)
    (w : Fin 32) : (traceWords d t)[e][w] = entryWord d snap w := by
  simp [traceWords, entryWords, h]

/-- What the host reads of an entry a snapshot fills: all its words, for what the descriptor's PRESENT bits hide is 0. -/
theorem traceView_recordTrace_of_some (s : State) {d : Dir} {t : List Snapshot} {e : Fin 15} {snap : Snapshot}
    (hlen : t.length ≤ 15) (hr : snap.round ≤ 14) (h : t[e.val]? = some snap) (w : Fin 32) :
    traceView (s.recordTrace d t) e w = entryWord d snap w := by
  have hlt : e.val < t.length := (List.getElem?_eq_some_iff.mp h).1
  have hnum : (BitVec.ofNat 4 t.length).toNat = t.length := by simp; omega
  have hused : ¬ ((s.recordTrace d t).tv = false ∨ (s.recordTrace d t).tnum.toNat ≤ e.val) := by simp; omega
  have hdesc : (s.recordTrace d t).trace[e][(0 : Fin 32)] = descriptorWord d snap := traceWords_getElem_of_some h 0
  have hword : (s.recordTrace d t).trace[e][w] = entryWord d snap w := traceWords_getElem_of_some h w
  rw [traceView, if_neg hused, hdesc, hword]
  split
  · next hw => rw [entryWord, if_pos hw]
  · next hw =>
    split
    · rfl
    · next hp =>
      rw [entryWord, if_neg hw]
      by_cases hs : 1 ≤ w.val / 4 ∧ w.val / 4 ≤ 6
      · rw [presentBit_descriptorWord d hr hs.1 hs.2] at hp
        have : snapshotField snap (w.val / 4) = none := by simpa [hs] using hp
        rw [this]
      · have : w.val / 4 = 0 ∨ w.val / 4 = 7 := by omega
        rcases this with h0 | h7
        · rw [h0]; rfl
        · rw [h7]; rfl

/-- What the host reads of an entry no snapshot fills: it is beyond TNUM. -/
theorem traceView_recordTrace_of_none (s : State) {d : Dir} {t : List Snapshot} {e : Fin 15} (hlen : t.length ≤ 15)
    (h : t[e.val]? = none) (w : Fin 32) : traceView (s.recordTrace d t) e w = 0 := by
  have hle : t.length ≤ e.val := List.getElem?_eq_none_iff.mp h
  exact if_pos (.inr (by simp; omega))

/-- The words the host reads from a recorded trace (10 R38). -/
theorem view_recordTrace (s : State) {d : Dir} {t : List Snapshot} (hlen : t.length ≤ 15) (hr : ∀ snap ∈ t, snap.round ≤ 14)
    (e : Fin 15) (w : Fin 32) :
    view (s.recordTrace d t) (.trace e w) = (t[e.val]?).elim 0 fun snap => entryWord d snap w := by
  cases h : t[e.val]? with
  | none => exact traceView_recordTrace_of_none s hlen h w
  | some snap => exact traceView_recordTrace_of_some s hlen (hr snap (List.mem_of_getElem? h)) h w

/-- Settles O47: a recorded trace reads as the words of its snapshots' entries. -/
theorem recordedTraceReadsBack : Obligations.RecordedTraceReadsBack := by
  refine ⟨fun s d t e slot c hlen hr h1 => ?_, fun s d t e hlen hr => ?_, fun s e w htv => if_pos (.inl htv)⟩
  · rw [view_recordTrace s hlen hr]
    cases t[e.val]? with
    | none => rfl
    | some snap => exact entryWord_slot d snap slot c h1
  · simp only [view_recordTrace s hlen hr]
    cases t[e.val]? with
    | none => exact ⟨rfl, rfl, rfl, rfl⟩
    | some snap =>
      have hz (w : Fin 32) (h : 1 ≤ w.val ∧ w.val ≤ 3) := entryWord_reserved d snap w h
      exact ⟨rfl, hz 1 (by decide), hz 2 (by decide), hz 3 (by decide)⟩

end Sys2Proof.Machine
end

section
/-! PROOF. What a step can change of the read-only and of the input registers, and who changes it (10 R20, 20 R62). -/
namespace Sys2Proof.Machine
open Sys2Proof.Claims

theorem whenZero_eq_ok {ok : Bool} {i j : Instr} (h : whenZero ok i = .ok j) : ok = true ∧ i = j := by
  cases ok <;> simp_all [whenZero]

/-- The fields of a word determine it (30 R71). -/
theorem eq_packWord_fields (w : Word) : w = packWord ⟨rsvField w, fbField w, faField w, opField w⟩ :=
  (packWord_bytesOf w).symm

/-- SRST has one encoding (30 R77). -/
theorem eq_srstWord_of_decode {w : Word} (h : decode w = .ok .srst) : w = srstWord := by
  simp only [decode, decodeFields] at h
  split at h
  case h_14 hop =>
    obtain ⟨hz, -⟩ := whenZero_eq_ok h
    simp only [fieldsOf, Bool.and_eq_true, beq_iff_eq] at hz hop
    obtain ⟨⟨hrsv, hfa⟩, hfb⟩ := hz
    have hop : opField w = 0x3F := BitVec.eq_of_toNat_eq hop
    rw [eq_packWord_fields w, hrsv, hfa, hfb, hop]
    decide
  case h_15 => cases h
  all_goals exact nomatch (whenZero_eq_ok h).2

/-- The control registers that a bus write can change (20 R55). -/
abbrev WritableControl (r : Reg) : Prop := r = .cmd ∨ r = .status ∨ r = .irqen

theorem view_clearStatus (s : State) (v : Word) {r : Reg} (hr : ¬ WritableControl r) : view (s.clearStatus v) r = view s r := by
  cases r <;> first | rfl | simp at hr

theorem view_setIrqen (s : State) (v : Word) {r : Reg} (hr : ¬ WritableControl r) : view (s.setIrqen v) r = view s r := by
  cases r <;> first | rfl | simp at hr

theorem view_refuse (s : State) {r : Reg} (hr : ¬ WritableControl r) : view s.refuse r = view s r := by
  cases r <;> first | rfl | simp at hr

theorem view_accept (s : State) (v : Word) {r : Reg} (hr : ¬ WritableControl r) : view (s.accept v) r = view s r := by
  cases r <;> first | rfl | simp at hr

/-- An input register reads as the value written. -/
theorem view_setInput_self (s : State) {r : Reg} (v : Word) (hr : regClass r = .input) : view (s.setInput r v) r = v := by
  cases r with
  | xin => rfl
  | key | bin | seg => simp [State.setInput, view]
  | _ => cases hr

/-- Setting one register of a bank leaves the others. -/
theorem getElem_set_of_ne {n : Nat} (bank : Vector Word n) {i j : Fin n} (v : Word) (h : j ≠ i) :
    (bank.set j v)[i] = bank[i] :=
  Vector.getElem_set_ne j.isLt i.isLt fun e => h (Fin.ext e)

/-- A write to an input register changes no other register. -/
theorem view_setInput_of_ne (s : State) {r r' : Reg} (v : Word) (h : r' ≠ r) : view (s.setInput r' v) r = view s r := by
  cases r' with
  | xin => cases r <;> first | rfl | exact absurd rfl h
  | key j =>
    cases r with
    | key i => exact getElem_set_of_ne s.key v fun e => h (congrArg Reg.key e)
    | _ => rfl
  | bin j =>
    cases r with
    | bin i => exact getElem_set_of_ne s.bin v fun e => h (congrArg Reg.bin e)
    | _ => rfl
  | seg j =>
    cases r with
    | seg i => exact getElem_set_of_ne s.seg v fun e => h (congrArg Reg.seg e)
    | _ => rfl
  | _ => rfl

/-- What a register write can change of the registers that are not writable control registers: the input register written,
by a write that is accepted (20 R62). -/
theorem eq_of_view_writeReg_ne {s : State} {r r' : Reg} {v : Word} (hr : ¬ WritableControl r)
    (h : view (s.writeReg r' v) r ≠ view s r) :
    r' = r ∧ regClass r = .input ∧ s.busy = false ∧ view (s.writeReg r' v) r = v ∧
      (s.writeReg r' v).rsp = some (.write .okay) := by
  rcases writeReg_cases s r' v with ⟨-, hw⟩ | ⟨-, hw⟩ | ⟨-, hw⟩ | ⟨-, -, hw⟩ | ⟨-, -, hw⟩ | ⟨hin, hb, hw⟩
  case inr.inr.inr.inr.inr =>
    rw [hw, view_respond] at h ⊢
    have hrr : r' = r := by_contra fun hne => h (view_setInput_of_ne s v hne)
    subst hrr
    exact ⟨rfl, hin, hb, view_setInput_self s v hin, rfl⟩
  all_goals
    refine absurd ?_ h
    simp only [hw, view_respond, view_clearStatus s v hr, view_setIrqen s v hr, view_refuse s hr, view_accept s v hr]

/-- What the host's write can change of those registers: all of them by SRST, else the input register written. -/
theorem writeStep_of_view_ne {s t : State} {r : Reg} {a : Addr} {v : Word} (hr : ¬ WritableControl r)
    (h : writeStep a v s = .next t) (hne : view t r ≠ view s r) :
    (a = offsetOf .cmd ∧ v = srstWord) ∨
      (regClass r = .input ∧ s.busy = false ∧ a = offsetOf r ∧ view t r = v ∧ t.rsp = some (.write .okay)) := by
  obtain ⟨ha, hv, -⟩ | ⟨-, rfl⟩ := writeStep_cases h
  · exact .inl ⟨eq_offsetOf_of_regAt ha, hv⟩
  · unfold State.busWrite at hne ⊢
    cases ha : regAt a with
    | none => simp [ha] at hne
    | some r' =>
      simp only [ha] at hne ⊢
      obtain ⟨rfl, hin, hb, hv, hrsp⟩ := eq_of_view_writeReg_ne hr hne
      exact .inr ⟨hin, hb, eq_offsetOf_of_regAt ha, hv, hrsp⟩

/-- The next transaction of the host is the SRST word's write to CMD. -/
abbrev SrstIsNext (s : State) : Prop := ∃ rest, s.host = .write (offsetOf .cmd) srstWord :: rest

/-- The step to `t` performs the host's next transaction, an accepted write to the input register `r`, which reads as written. -/
abbrev AcceptsInput (s t : State) (r : Reg) : Prop :=
  regClass r = .input ∧ s.busy = false ∧
    ∃ v rest, s.host = .write (offsetOf r) v :: rest ∧ view t r = v ∧ t.rsp = some (.write .okay)

theorem hostStep_of_view_ne {s t : State} {r : Reg} (hr : ¬ WritableControl r) (h : hostStep s = .next t)
    (hne : view t r ≠ view s r) : s.rstN = true ∧ (SrstIsNext s ∨ AcceptsInput s t r) := by
  rcases hostStep_cases h with ⟨-, rfl⟩ | ⟨rest, -, rfl⟩ | ⟨a, rest, -, -, rfl⟩ | ⟨a, v, rest, hh, hn, hw⟩ | ⟨_, rest, -, -, rfl⟩
  case inr.inr.inr.inl =>
    obtain ⟨rfl, rfl⟩ | ⟨hin, hb, rfl, hv, hrsp⟩ := writeStep_of_view_ne hr hw (by simpa using hne)
    · exact ⟨hn, .inl ⟨rest, hh⟩⟩
    · exact ⟨hn, .inr ⟨hin, hb, v, rest, hh, hv, hrsp⟩⟩
  all_goals simp at hne

/-- A completion ends the command in flight (60 R161). -/
theorem completed_busy (op : Byte) (s : State) (o : Except ErrorCode State) : (completed op s o).busy = false := by
  cases o <;> rfl

/-- The engine's step changes such a register only by completing the command in flight, and never an input register. -/
theorem engineStep_of_view_ne {s t : State} {r : Reg} (hr : ¬ WritableControl r) (hp : s.pend ≠ some srstWord)
    (h : engineStep s = .next t) (hne : view t r ≠ view s r) :
    regClass r ≠ .input ∧ s.busy = true ∧ t.busy = false ∧ s.rstN = true := by
  have hst : r ≠ .status := fun e => hr (.inr (.inl e))
  rcases engineStep_cases h with ⟨-, rfl⟩ | ⟨w, i, hw, hd, hx⟩ | ⟨w, e, -, -, rfl⟩
  · exact absurd rfl hne
  · obtain ⟨hn, hpend⟩ := inFlight_eq_some.mp hw
    have hi : i ≠ .srst := by
      rintro rfl
      exact hp (eq_srstWord_of_decode hd ▸ hpend)
    have hidle : t.busy = false := by
      obtain ⟨hs, -⟩ | ⟨-, o, rfl⟩ := exec_cases hx
      · exact absurd hs hi
      · exact completed_busy i.opcode s o
    exact ⟨fun hin => hne (view_input_exec hi hx r hin), by simp [State.busy, hpend], hidle, hn⟩
  · exact absurd (by rw [reject_eq, view_finish _ _ _ r hst]) hne

/-- What a step can change of those registers, and who changes it. -/
theorem step_of_view_ne {s t : State} {r : Reg} (hr : ¬ WritableControl r) (hp : s.pend ≠ some srstWord)
    (h : step s = .next t) (hne : view t r ≠ view s r) :
    (regClass r ≠ .input ∧ s.busy = true ∧ t.busy = false ∧ s.rstN = true ∧ (s.turns = [] ∨ ∃ ts, s.turns = .engine :: ts)) ∨
      (HostMoves s ∧ (SrstIsNext s ∨ AcceptsInput s t r)) ∨ ∃ level ts, s.turns = .pin level :: ts := by
  rcases step_cases h with ⟨ht, -, he⟩ | ⟨ht, hf, hh⟩ | ⟨ts, ht, hh⟩ | ⟨ts, ht, he⟩ | ⟨ts, -, rfl⟩ | ⟨level, ts, ht, -⟩
  · obtain ⟨hin, hb, hidle, hn⟩ := engineStep_of_view_ne hr hp he hne
    exact .inl ⟨hin, hb, hidle, hn, .inl ht⟩
  · obtain ⟨hn, hc⟩ := hostStep_of_view_ne hr hh hne
    have hb : s.busy = false := by
      have hpend : s.pend = none := by simpa [State.inFlight, hn] using hf
      simp [State.busy, hpend]
    exact .inr (.inl ⟨⟨hn, .inr ⟨ht, hb⟩⟩, hc⟩)
  · obtain ⟨hn, hc⟩ := hostStep_of_view_ne hr hh (by simpa using hne)
    exact .inr (.inl ⟨⟨hn, .inl ⟨ts, ht⟩⟩, hc⟩)
  · obtain ⟨hin, hb, hidle, hn⟩ :=
      engineStep_of_view_ne (s := { s with turns := ts }) hr hp he (by simpa using hne)
    exact .inl ⟨hin, hb, hidle, hn, .inr ⟨ts, ht⟩⟩
  · simp at hne
  · exact .inr (.inr ⟨level, ts, ht⟩)

theorem not_writableControl {r : Reg} (h : readOnly r = true ∨ regClass r = .input) : ¬ WritableControl r := by
  cases r <;> simp_all [readOnly, regClass]

theorem regClass_ne_input_of_readOnly {r : Reg} (h : readOnly r = true) : regClass r ≠ .input := by
  cases r <;> simp_all [readOnly, regClass]

/-- Settles O56: by who moves, a step that changes such a register is a completion, SRST, an accepted write or a pin event. -/
theorem registersChangeOnlyThere : Obligations.RegistersChangeOnlyThere := by
  intro s t r hp h hne
  constructor
  · intro hro
    obtain ⟨-, hc⟩ | ⟨hm, hsrst | ⟨hin, -⟩⟩ | hpin := step_of_view_ne (not_writableControl (.inl hro)) hp h hne
    · exact .inl hc
    · exact .inr (.inl ⟨hm, hsrst⟩)
    · exact absurd hin (regClass_ne_input_of_readOnly hro)
    · exact .inr (.inr hpin)
  · intro hin
    obtain ⟨hni, -⟩ | ⟨hm, hsrst | ⟨-, hb, hw⟩⟩ | hpin := step_of_view_ne (not_writableControl (.inr hin)) hp h hne
    · exact absurd hin hni
    · exact .inr (.inl ⟨hm, hsrst⟩)
    · exact .inl ⟨hm, hb, hw⟩
    · exact .inr (.inr hpin)

end Sys2Proof.Machine
end

section
/-! PROOF. SEQ is not observable (10 R39): each operation answers the same wherever the sequencer stands. -/
namespace Sys2Proof.Machine
open Sys2Proof.Claims

/-- The state with the sequencer put elsewhere. -/
def State.withSeq (s : State) (q : Seq) : State := { s with seq := q }

/-- No meaning depends on SEQ: a completion puts it at Start, and so does SRST (60 R161, 43 R151). -/
theorem exec_withSeq (i : Instr) (s : State) (q : Seq) : exec i (s.withSeq q) = exec i s := by
  cases i with
  | nop | gfmul | sbox | invsbox | mixcol | invmixcol | srst => rfl
  | rcon n => simp only [exec, execRcon]; cases checkRcon n <;> rfl
  | expand k r => simp only [exec, execExpand]; cases checkExpand k r <;> rfl
  | derive n o => simp only [exec, execDerive]; cases checkDerive n o <;> rfl
  | enc k b => simp only [exec, execEnc]; cases checkCipher k b <;> rfl
  | dec k b => simp only [exec, execDec]; cases checkCipher k b <;> rfl
  | enct k b => simp only [exec, execEnct]; cases checkCipher k b <;> rfl
  | dect k b => simp only [exec, execDect]; cases checkCipher k b <;> rfl

/-- The engine's step does not depend on SEQ -/
theorem engineStep_withSeq {s t : State} (q : Seq) (h : engineStep s = .next t) :
    ∃ q', engineStep (s.withSeq q) = .next (t.withSeq q') := by
  have hf : (s.withSeq q).inFlight = s.inFlight := rfl
  rcases engineStep_cases h with ⟨hn, rfl⟩ | ⟨w, i, hw, hd, hx⟩ | ⟨w, e, hw, hd, rfl⟩
  · exact ⟨q, by simp only [engineStep, hf, hn]⟩
  · exact ⟨t.seq, by simp only [engineStep, hf, hw, hd, exec_withSeq, hx]; rfl⟩
  · exact ⟨.start, by simp only [engineStep, hf, hw, hd]; rfl⟩

@[simp] theorem view_withSeq (s : State) (q : Seq) (r : Reg) : view (s.withSeq q) r = view s r := by cases r <;> rfl

theorem busRead_withSeq (s : State) (a : Addr) (q : Seq) : (s.withSeq q).busRead a = (s.busRead a).withSeq q := by
  have hb : (s.withSeq q).busy = s.busy := rfl
  simp only [State.busRead, view_withSeq, hb]
  split
  · rfl
  · split <;> rfl

theorem poll_withSeq (s : State) (rest : List HostOp) (q : Seq) : (s.withSeq q).poll rest = (s.poll rest).withSeq q := by
  have hst : statusWord (s.withSeq q) = statusWord s := rfl
  have hn : (s.withSeq q).rstN = s.rstN := rfl
  simp only [State.poll, busRead_withSeq, hst, hn]
  split
  · split <;> rfl
  · rfl

theorem writeReg_withSeq (s : State) (r : Reg) (v : Word) (q : Seq) :
    ∃ q', (s.withSeq q).writeReg r v = (s.writeReg r v).withSeq q' := by
  have hb : (s.withSeq q).busy = s.busy := rfl
  cases r with
  | cmd =>
    simp only [State.writeReg, State.writeCmd, hb]
    cases s.busy
    · exact ⟨firstStageOf v, rfl⟩
    · exact ⟨q, rfl⟩
  | xin | key | bin | seg => 
    refine ⟨q, ?_⟩
    simp only [State.writeReg, State.writeInput, hb]
    cases s.busy <;> rfl
  | _ => exact ⟨q, rfl⟩

theorem writeStep_withSeq {a : Addr} {v : Word} {s t : State} (q : Seq) (h : writeStep a v s = .next t) :
    ∃ q', writeStep a v (s.withSeq q) = .next (t.withSeq q') := by
  unfold writeStep at h ⊢
  split at h
  · exact ⟨t.seq, by rw [exec_withSeq, h]; rfl⟩
  · cases h
    unfold State.busWrite
    split
    · exact ⟨q, rfl⟩
    · rename_i r _
      obtain ⟨q', hq⟩ := writeReg_withSeq s r v q
      exact ⟨q', by rw [hq]⟩

theorem hostStep_withSeq {s t : State} (q : Seq) (h : hostStep s = .next t) :
    ∃ q', hostStep (s.withSeq q) = .next (t.withSeq q') := by
  have hpin : (s.withSeq q).rstN = s.rstN := rfl
  cases hh : s.host with
  | nil =>
    rw [hostStep_of_host_nil hh] at h
    cases h
    exact ⟨q, hostStep_of_host_nil (s := s.withSeq q) hh⟩
  | cons op rest =>
    cases op with
    | wait =>
      rw [hostStep_of_host_wait hh] at h
      cases h
      exact ⟨q, by rw [hostStep_of_host_wait (s := s.withSeq q) hh, poll_withSeq]⟩
    | read a =>
      rw [hostStep_of_host_read hh] at h
      rw [hostStep_of_host_read (s := s.withSeq q) hh, hpin]
      by_cases hn : s.rstN = true
      · rw [if_pos hn] at h ⊢
        cases h
        exact ⟨q, congrArg _ (busRead_withSeq { s with host := rest } a q)⟩
      · rw [if_neg hn] at h ⊢
        cases h
        exact ⟨q, rfl⟩
    | write a v =>
      rw [hostStep_of_host_write hh] at h
      rw [hostStep_of_host_write (s := s.withSeq q) hh, hpin]
      by_cases hn : s.rstN = true
      · rw [if_pos hn] at h ⊢
        exact writeStep_withSeq q h
      · rw [if_neg hn] at h ⊢
        cases h
        exact ⟨q, rfl⟩

theorem drivePin_withSeq (s : State) (level : Bool) (q : Seq) :
    ∃ q', (s.withSeq q).drivePin level = (s.drivePin level).withSeq q' := by
  have hpin : (s.withSeq q).rstN = s.rstN := rfl
  simp only [State.drivePin, hpin]
  split
  · exact ⟨q, rfl⟩
  · exact ⟨.start, rfl⟩

theorem step_withSeq {s t : State} (q : Seq) (h : step s = .next t) : ∃ q', step (s.withSeq q) = .next (t.withSeq q') := by
  rcases step_cases h with ⟨ht, hi, he⟩ | ⟨ht, hi, hh⟩ | ⟨ts, ht, hh⟩ | ⟨ts, ht, he⟩ | ⟨ts, ht, rfl⟩ | ⟨level, ts, ht, rfl⟩
  · have hi' : (s.withSeq q).inFlight.isSome = true := hi
    rw [step_of_turns_nil (s := s.withSeq q) ht, if_pos hi']
    exact engineStep_withSeq q he
  · have hi' : (s.withSeq q).inFlight = none := hi
    rw [step_of_turns_nil (s := s.withSeq q) ht, hi']
    exact hostStep_withSeq q hh
  · rw [step_of_turns_host (s := s.withSeq q) ht]
    exact hostStep_withSeq q hh
  · rw [step_of_turns_engine (s := s.withSeq q) ht]
    exact engineStep_withSeq q he
  · rw [step_of_turns_stage (s := s.withSeq q) ht]
    exact ⟨_, rfl⟩
  · rw [step_of_turns_pin (s := s.withSeq q) ht]
    obtain ⟨q', hq⟩ := drivePin_withSeq { s with turns := ts } level q
    exact ⟨q', congrArg _ hq⟩

/-- Settles O60: the step at the other position of SEQ, by mover. -/
theorem sequencerIsHidden : Obligations.SequencerIsHidden := fun _ _ q h => step_withSeq q h

end Sys2Proof.Machine
end

section
/-! PROOF. Every step keeps a legal state legal: lengths of what commands write, ranges, then one lemma per operation and one per
mover. -/
namespace Sys2Proof.Machine
open Sys2Proof.Claims

/-! ### Lengths of what the commands write -/

theorem expand_length (key : List Word) (rounds : Nat) (h : key.length ≤ 4 * (rounds + 1)) :
    (expand key rounds).length = 4 * (rounds + 1) := by
  simp only [expand, expandLoop_length]; omega

theorem derive_length (seg : List Word) (off : Nat) : (derive seg off).length = off + seg.length := by
  simp [derive]

theorem encryptRun_sched_length (s : State) (k : KeySize) : (encryptRun s k).sched.length = 4 * (k.nr + 1) :=
  expand_length _ _ (by rw [keyWords_length]; cases k <;> decide)

theorem decryptRun_sched_length (s : State) (k : KeySize) : (decryptRun s k).sched.length = 4 * (k.nr + 1) :=
  expand_length _ _ (by rw [keyWords_length]; cases k <;> decide)

theorem encryptRun_trace_length (s : State) (k : KeySize) : (encryptRun s k).trace.length = k.nr + 1 := by
  cases k <;> simp [encryptRun, encrypt, encryptWith, KeySize.nr]

theorem decryptRun_trace_length (s : State) (k : KeySize) : (decryptRun s k).trace.length = k.nr + 1 := by
  cases k <;> simp [decryptRun, decrypt, decryptWith, KeySize.nr]

/-! ### Operand checks -/

theorem checkExpand_eq_ok {klen rounds : Byte} {k : KeySize} (h : checkExpand klen rounds = .ok k) :
    1 ≤ rounds.toNat ∧ rounds.toNat ≤ 14 := by
  unfold checkExpand Config.maxRounds at h
  split at h
  · cases h
  · split at h
    · cases h
    · omega

theorem checkDerive_eq_ok {nk off : Byte} {k : KeySize} (h : checkDerive nk off = .ok k) : off.toNat + k.nk ≤ 60 := by
  unfold checkDerive Config.schedWords at h
  split at h
  · cases h
  · split at h
    · cases h
    · cases h; omega

/-! ### SEQ stays in range -/

theorem nr_le (k : KeySize) : k.nr ≤ 14 := by cases k <;> decide

theorem seqInRange_firstStageOf (w : Word) : seqInRange (firstStageOf w) = true := by
  unfold firstStageOf
  cases decode w with
  | error e => rfl
  | ok i =>
    cases i with
    | enc k b | enct k b => simp only [firstStage]; cases checkCipher k b <;> rfl
    | dec k b | dect k b =>
      simp only [firstStage]
      cases checkCipher k b with
      | error e => rfl
      | ok ks => exact decide_eq_true (nr_le ks)
    | _ => rfl

theorem seqInRange_stageUp (k : KeySize) {q : Seq} (h : seqInRange q = true) : seqInRange (stageUp k.nr q) = true := by
  cases q with
  | round r =>
    simp only [stageUp]
    split
    · exact decide_eq_true (by have := nr_le k; omega)
    · rfl
  | _ => rfl

theorem seqInRange_stageDown {q : Seq} (h : seqInRange q = true) : seqInRange (stageDown q) = true := by
  match q with
  | .round (r + 1) => exact decide_eq_true (by have := of_decide_eq_true h; omega)
  | .round 0 | .start | .done => rfl

theorem seqInRange_nextStageOf (p : Option Word) {q : Seq} (h : seqInRange q = true) :
    seqInRange (nextStageOf p q) = true := by
  unfold nextStageOf
  cases p with
  | none => exact h
  | some w =>
    dsimp only
    cases decode w with
    | error e => exact h
    | ok i =>
      cases i with
      | enc k b | enct k b =>
        simp only [nextStage]
        cases checkCipher k b with
        | error e => exact h
        | ok ks => exact seqInRange_stageUp ks h
      | dec k b | dect k b =>
        simp only [nextStage]
        cases checkCipher k b with
        | error e => exact h
        | ok ks => exact seqInRange_stageDown h
      | _ => exact h

/-! ### The outputs stay legal -/

/-- The part of the invariant that speaks of what commands write. -/
abbrev OutputsLegal (s : State) : Prop := SchedLegal s ∧ KoutLegal s ∧ TraceLegal s

theorem schedLegal_loadSched (s : State) {w : List Word} (h : w.length ≤ 60) : SchedLegal (s.loadSched w) := by
  have hlen : (BitVec.ofNat 8 w.length).toNat = w.length := by simp; omega
  refine ⟨?_, fun i hi => ?_⟩
  · rwa [State.loadSched_schedLen, hlen]
  · rw [State.loadSched_schedLen, hlen] at hi
    simpa using wordAt_of_length_le w i hi

theorem koutLegal_setKout (s : State) {w : List Word} (h : w.length = 4 ∨ w.length = 6 ∨ w.length = 8) :
    KoutLegal (s.setKout w) := by
  refine ⟨?_, fun j hj => ?_⟩
  · simp only [State.setKout_koLen]
    rcases h with h | h | h <;> simp [h]
  · simp only [State.setKout_koLen, BitVec.toNat_ofNat] at hj
    simpa using wordAt_of_length_le w j (by omega)

theorem traceLegal_recordTrace (s : State) (d : Dir) {t : List Snapshot} (h : t.length = 11 ∨ t.length = 13 ∨ t.length = 15) :
    TraceLegal (s.recordTrace d t) := by
  refine ⟨fun _ => ?_, nofun⟩
  simp only [State.recordTrace_tnum]
  rcases h with h | h | h <;> simp [h]

theorem traceLegal_dropTrace (s : State) : TraceLegal s.dropTrace := ⟨nofun, fun _ => ⟨rfl, rfl⟩⟩

theorem nr_succ_cases (k : KeySize) : k.nr + 1 = 11 ∨ k.nr + 1 = 13 ∨ k.nr + 1 = 15 := by cases k <;> decide

theorem nk_cases (k : KeySize) : k.nk = 4 ∨ k.nk = 6 ∨ k.nk = 8 := by cases k <;> decide

theorem outputsLegal_expanded {s : State} (h : OutputsLegal s) (k : KeySize) {rounds : Nat} (h1 : 1 ≤ rounds)
    (h14 : rounds ≤ 14) : OutputsLegal (s.expanded k rounds) := by
  obtain ⟨-, hkout, htrace⟩ := h
  have hk := nk_cases k
  have hlen := expand_length (keyWords s k) rounds (by rw [keyWords_length]; omega)
  exact ⟨schedLegal_loadSched s (by omega), hkout, htrace⟩

theorem outputsLegal_derived {s : State} (h : OutputsLegal s) {k : KeySize} {off : Nat} (hoff : off + k.nk ≤ 60) :
    OutputsLegal (s.derived k off) := by
  obtain ⟨-, -, htrace⟩ := h
  have hlen : (derive (segWords s k) off).length = off + k.nk := by rw [derive_length, segWords_length]
  have hk := nk_cases k
  refine ⟨schedLegal_loadSched s (by omega), koutLegal_setKout _ ?_, htrace⟩
  rw [List.length_take, hlen]
  omega

theorem schedLegal_cipherOut (s : State) {r : CipherRun} {k : KeySize} (h : r.sched.length = 4 * (k.nr + 1)) :
    SchedLegal (s.cipherOut r) :=
  schedLegal_loadSched _ (by have := nr_le k; omega)

theorem outputsLegal_cipherOut_dropTrace {s : State} (h : OutputsLegal s) {r : CipherRun} {k : KeySize}
    (hsched : r.sched.length = 4 * (k.nr + 1)) : OutputsLegal (s.cipherOut r).dropTrace := by
  obtain ⟨-, hkout, -⟩ := h
  exact ⟨schedLegal_cipherOut s hsched, hkout, traceLegal_dropTrace _⟩

theorem outputsLegal_cipherOut_recordTrace {s : State} (h : OutputsLegal s) {r : CipherRun} {k : KeySize}
    (hsched : r.sched.length = 4 * (k.nr + 1)) (d : Dir) (htrace : r.trace.length = k.nr + 1) :
    OutputsLegal ((s.cipherOut r).recordTrace d r.trace) := by
  obtain ⟨-, hkout, -⟩ := h
  exact ⟨schedLegal_cipherOut s hsched, hkout, traceLegal_recordTrace _ d (by rw [htrace]; exact nr_succ_cases k)⟩

/-- A command but SRST completes on legal outputs. -/
theorem exec_outputsLegal {i : Instr} {s t : State} (hi : i ≠ .srst) (hs : OutputsLegal s) (h : exec i s = .next t) :
    ∃ u e, t = u.finish i.opcode e ∧ u.rstN = s.rstN ∧ OutputsLegal u := by
  have fails (e : ErrorCode) :
      ∃ u e', s.finish i.opcode e = u.finish i.opcode e' ∧ u.rstN = s.rstN ∧ OutputsLegal u := ⟨s, e, rfl, rfl, hs⟩
  cases i with
  | srst => exact absurd rfl hi
  | nop => cases h; exact ⟨s, _, rfl, rfl, hs⟩
  | gfmul | sbox | invsbox | mixcol | invmixcol => cases h; exact ⟨s.setResult _, _, rfl, rfl, hs⟩
  | rcon n =>
    cases hc : checkRcon n <;> simp only [exec, execRcon, hc] at h <;> cases h
    · exact fails _
    · exact ⟨s.setResult _, _, rfl, rfl, hs⟩
  | expand k r =>
    cases hc : checkExpand k r <;> simp only [exec, execExpand, hc] at h <;> cases h
    · exact fails _
    · obtain ⟨h1, h14⟩ := checkExpand_eq_ok hc
      exact ⟨_, _, rfl, rfl, outputsLegal_expanded hs _ h1 h14⟩
  | derive n o =>
    cases hc : checkDerive n o <;> simp only [exec, execDerive, hc] at h <;> cases h
    · exact fails _
    · exact ⟨_, _, rfl, rfl, outputsLegal_derived hs (checkDerive_eq_ok hc)⟩
  | enc k b =>
    cases hc : checkCipher k b <;> simp only [exec, execEnc, hc] at h <;> cases h
    · exact fails _
    · exact ⟨_, _, rfl, rfl, outputsLegal_cipherOut_dropTrace hs (encryptRun_sched_length s _)⟩
  | dec k b =>
    cases hc : checkCipher k b <;> simp only [exec, execDec, hc] at h <;> cases h
    · exact fails _
    · exact ⟨_, _, rfl, rfl, outputsLegal_cipherOut_dropTrace hs (decryptRun_sched_length s _)⟩
  | enct k b =>
    cases hc : checkCipher k b <;> simp only [exec, execEnct, hc] at h <;> cases h
    · exact fails _
    · exact ⟨_, _, rfl, rfl, outputsLegal_cipherOut_recordTrace hs (encryptRun_sched_length s _) _ (encryptRun_trace_length s _)⟩
  | dect k b =>
    cases hc : checkCipher k b <;> simp only [exec, execDect, hc] at h <;> cases h
    · exact fails _
    · exact ⟨_, _, rfl, rfl, outputsLegal_cipherOut_recordTrace hs (decryptRun_sched_length s _) _ (decryptRun_trace_length s _)⟩

/-! ### Each operation keeps a legal state legal -/

/-- The invariant speaks of what stands outside the engine only in so far as there is no response while the pin is low. -/
theorem legal_outside {s : State} (h : Legal s) (l : List HostOp) (ts : List Turn) {x : Option Response} (n : Nat)
    (hx : s.rstN = false → x = none) : Legal { s with host := l, turns := ts, rsp := x, draws := n } := by
  obtain ⟨hpend, hflags, herr, hseq, hsched, hkout, htrace, hpin⟩ := h
  refine ⟨hpend, hflags, herr, hseq, hsched, hkout, htrace, fun hlow => ⟨?_, hx hlow⟩⟩
  exact congrArg (fun u : State => { u with host := l, turns := ts, rsp := x, draws := n }) (hpin hlow).1

theorem rsp_eq_none_of_low {s : State} (h : Legal s) (hlow : s.rstN = false) : s.rsp = none := by
  obtain ⟨-, -, -, -, -, -, -, hpin⟩ := h
  exact (hpin hlow).2

theorem legal_host {s : State} (h : Legal s) (l : List HostOp) : Legal { s with host := l } :=
  legal_outside h l s.turns s.draws (rsp_eq_none_of_low h)

theorem legal_turns {s : State} (h : Legal s) (ts : List Turn) : Legal { s with turns := ts } :=
  legal_outside h s.host ts s.draws (rsp_eq_none_of_low h)

theorem legal_noResponse {s : State} (h : Legal s) : Legal s.noResponse :=
  legal_outside h s.host s.turns s.draws fun _ => rfl

section
variable {s : State}

/-- With the pin released, what the invariant says of a low pin holds of nothing. -/
theorem not_low_of_high (hn : s.rstN = true) {p : Prop} : s.rstN = false → p := fun hlow => by
  rw [hn] at hlow
  cases hlow

theorem legal_respond (h : Legal s) (hn : s.rstN = true) (x : Response) : Legal (s.respond x) :=
  legal_outside h s.host s.turns s.draws (not_low_of_high hn)

theorem legal_drawRead (h : Legal s) (hn : s.rstN = true) : Legal s.drawRead :=
  legal_outside h s.host s.turns (s.draws + 1) (not_low_of_high hn)

theorem legal_clearStatus (h : Legal s) (hn : s.rstN = true) (v : Word) : Legal (s.clearStatus v) := by
  obtain ⟨hpend, hflags, herr, hseq, hsched, hkout, htrace, -⟩ := h
  have hflags' : BusyFlagsClear (s.clearStatus v) := fun hb => by
    obtain ⟨hd, he, hc⟩ := hflags hb
    exact ⟨by simp [hd], by simp [he], hc⟩
  have herr' : ErrHasCode (s.clearStatus v) := fun he => herr (Bool.and_eq_true_iff.mp he).1
  exact ⟨hpend, hflags', herr', hseq, hsched, hkout, htrace, not_low_of_high hn⟩

theorem legal_setIrqen (h : Legal s) (hn : s.rstN = true) (v : Word) : Legal (s.setIrqen v) := by
  obtain ⟨hpend, hflags, herr, hseq, hsched, hkout, htrace, -⟩ := h
  exact ⟨hpend, hflags, herr, hseq, hsched, hkout, htrace, not_low_of_high hn⟩

theorem legal_setOverrun (h : Legal s) (hn : s.rstN = true) : Legal s.setOverrun := by
  obtain ⟨hpend, hflags, herr, hseq, hsched, hkout, htrace, -⟩ := h
  exact ⟨hpend, hflags, herr, hseq, hsched, hkout, htrace, not_low_of_high hn⟩

theorem legal_setInput (h : Legal s) (hn : s.rstN = true) (r : Reg) (v : Word) : Legal (s.setInput r v) := by
  obtain ⟨hpend, hflags, herr, hseq, hsched, hkout, htrace, -⟩ := h
  cases r <;> exact ⟨hpend, hflags, herr, hseq, hsched, hkout, htrace, not_low_of_high hn⟩

theorem legal_accept (h : Legal s) (hn : s.rstN = true) {v : Word} (hv : v ≠ srstWord) : Legal (s.accept v) := by
  obtain ⟨-, -, -, -, hsched, hkout, htrace, -⟩ := h
  exact ⟨.inr ⟨rfl, hv⟩, fun _ => ⟨rfl, rfl, rfl⟩, nofun, ⟨nofun, seqInRange_firstStageOf v⟩, hsched, hkout, htrace,
    not_low_of_high hn⟩

/-- A completion is legal whatever came before it, its outputs being so. -/
theorem legal_finish (h : OutputsLegal s) (hn : s.rstN = true) (op : Byte) (e : ErrorCode) : Legal (s.finish op e) := by
  obtain ⟨hsched, hkout, htrace⟩ := h
  exact ⟨.inl rfl, nofun, of_decide_eq_true, ⟨fun _ => rfl, rfl⟩, hsched, hkout, htrace, not_low_of_high hn⟩

theorem legal_softReset (hn : s.rstN = true) : Legal s.softReset :=
  legal_respond (legal_resetEngine (not_low_of_high hn)) hn _

theorem legal_busRead (h : Legal s) (hn : s.rstN = true) (a : Addr) : Legal (s.busRead a) := by
  rcases busRead_cases s a with ⟨-, hr⟩ | ⟨_, -, -, -, hr⟩ | ⟨_, -, -, hr⟩ <;> rw [hr]
  · exact legal_respond h hn _
  · exact legal_drawRead h hn
  · exact legal_respond h hn _

theorem legal_writeReg (h : Legal s) (hn : s.rstN = true) {r : Reg} {v : Word} (hv : r = .cmd → v ≠ srstWord) :
    Legal (s.writeReg r v) := by
  rcases writeReg_cases s r v with ⟨-, hw⟩ | ⟨-, hw⟩ | ⟨-, hw⟩ | ⟨-, -, hw⟩ | ⟨hr, -, hw⟩ | ⟨-, -, hw⟩ <;> rw [hw]
  · exact legal_respond h hn _
  · exact legal_respond (legal_clearStatus h hn v) hn _
  · exact legal_respond (legal_setIrqen h hn v) hn _
  · exact legal_respond (legal_setOverrun h hn) hn _
  · exact legal_respond (legal_accept h hn (hv hr)) hn _
  · exact legal_respond (legal_setInput h hn r v) (by rw [State.setInput_rstN, hn]) _

theorem legal_writeStep {t : State} (h : Legal s) (hn : s.rstN = true) {a : Addr} {v : Word}
    (hw : writeStep a v s = .next t) : Legal t := by
  obtain ⟨-, -, rfl⟩ | ⟨hnot, rfl⟩ := writeStep_cases hw
  · exact legal_softReset hn
  · unfold State.busWrite
    cases ha : regAt a with
    | none => exact legal_respond h hn _
    | some r =>
      refine legal_writeReg h hn fun hr hv => ?_
      rw [runsAtWrite, if_pos ⟨ha.trans (congrArg some hr), hv⟩] at hnot
      cases hnot

theorem legal_poll (h : Legal s) (rest : List HostOp) : Legal (s.poll rest) := by
  unfold State.poll
  split
  · next hn =>
    have hread := legal_busRead h hn (offsetOf .status)
    split
    · exact hread
    · exact legal_host hread rest
  · exact legal_noResponse h

theorem legal_advanceSeq (h : Legal s) : Legal s.advanceSeq := by
  cases hn : s.rstN with
  | false =>
    have hsame : s.advanceSeq = s := congrArg s.withSeq (if_neg (by rw [hn]; decide))
    rwa [hsame]
  | true =>
    have hseq : s.advanceSeq.seq = nextStageOf s.pend s.seq := if_pos hn
    obtain ⟨hpend, hflags, herr, ⟨hidle, hrange⟩, hsched, hkout, htrace, -⟩ := h
    refine ⟨hpend, hflags, herr, ⟨fun hb => ?_, ?_⟩, hsched, hkout, htrace, not_low_of_high hn⟩
    · have hnone : s.pend = none := by simpa [State.busy] using hb
      rw [hseq, hnone]
      exact hidle hb
    · rw [hseq]
      exact seqInRange_nextStageOf _ hrange

theorem legal_drivePin (h : Legal s) (level : Bool) : Legal (s.drivePin level) := by
  unfold State.drivePin
  split
  · exact h
  · exact legal_resetEngine (s := { s with rstN := level, rsp := none }) fun _ => rfl

end

/-! ### Each mover keeps a legal state legal -/

theorem legal_engineStep {s t : State} (h : Legal s) (he : engineStep s = .next t) : Legal t := by
  have hout : OutputsLegal s := by
    obtain ⟨-, -, -, -, hsched, hkout, htrace, -⟩ := h
    exact ⟨hsched, hkout, htrace⟩
  rcases engineStep_cases he with ⟨-, rfl⟩ | ⟨w, i, hw, -, hx⟩ | ⟨w, e, hw, -, rfl⟩
  · exact h
  · obtain ⟨hn, -⟩ := inFlight_eq_some.mp hw
    obtain ⟨-, rfl⟩ | ⟨hi, -⟩ := exec_cases hx
    · exact legal_softReset hn
    · obtain ⟨u, e, rfl, hu, hlegal⟩ := exec_outputsLegal hi hout hx
      exact legal_finish hlegal (hu.trans hn) _ e
  · obtain ⟨hn, -⟩ := inFlight_eq_some.mp hw
    exact legal_finish hout hn _ _

theorem legal_hostStep {s t : State} (h : Legal s) (hh : hostStep s = .next t) : Legal t := by
  rcases hostStep_cases hh with ⟨-, rfl⟩ | ⟨rest, -, rfl⟩ | ⟨a, rest, -, hn, rfl⟩ | ⟨a, v, rest, -, hn, hw⟩ | ⟨_, rest, -, -, rfl⟩
  · exact h
  · exact legal_poll h rest
  · exact legal_busRead (legal_host h rest) hn a
  · exact legal_writeStep (legal_host h rest) hn hw
  · exact legal_noResponse (legal_host h rest)

/-- Settles O53: the step's mover keeps the invariant, for each mover its operations do. -/
theorem stepKeepsLegal : Obligations.StepKeepsLegal := by
  intro s t h hstep
  rcases step_cases hstep with ⟨-, -, he⟩ | ⟨-, -, hh⟩ | ⟨ts, -, hh⟩ | ⟨ts, -, he⟩ | ⟨ts, -, rfl⟩ | ⟨level, ts, -, rfl⟩
  · exact legal_engineStep h he
  · exact legal_hostStep h hh
  · exact legal_hostStep (legal_turns h ts) hh
  · exact legal_engineStep (legal_turns h ts) he
  · exact legal_advanceSeq (legal_turns h ts)
  · exact legal_drivePin (legal_turns h ts) level

end Sys2Proof.Machine
end

section
/-! PROOF. The register map (20 R52 to R55): which offset holds which register, and the class and the access of each. -/
namespace Sys2Proof.Machine
open Sys2Proof.Claims

/-- A register stands at its offset and nowhere else (20 R53). -/
theorem regAt_eq_some_iff {a : Addr} {r : Reg} : regAt a = some r ↔ a.toNat = offsetNat r := by
  constructor
  · intro h
    rw [eq_offsetOf_of_regAt h, offsetOf_toNat]
  · intro h
    have ha : a = offsetOf r := BitVec.eq_of_toNat_eq (h.trans (offsetOf_toNat r).symm)
    rw [ha, regAt_offsetOf]

/-- An offset that is no register's is reserved (20 R53). -/
theorem regAt_eq_none_of_reserved {a : Addr} (h : ∀ r, a.toNat ≠ offsetNat r) : regAt a = none :=
  Option.eq_none_iff_forall_ne_some.mpr fun r hr => h r (regAt_eq_some_iff.mp hr)

/-- Every register stands at a word boundary, so a misaligned offset holds none (20 R52). -/
theorem regAt_eq_none_of_misaligned {a : Addr} (h : a.toNat % 4 ≠ 0) : regAt a = none := if_pos h

theorem regClass_eq_input_iff (r : Reg) :
    regClass r = .input ↔ r = .xin ∨ (∃ j, r = .key j) ∨ (∃ c, r = .bin c) ∨ ∃ j, r = .seg j := by
  cases r <;> simp [regClass]

theorem regClass_eq_output_iff (r : Reg) :
    regClass r = .output ↔ r = .result ∨ IsBout r ∨ IsKout r ∨ IsSched r ∨ IsTrace r := by
  cases r <;> simp [regClass, IsBout, IsKout, IsSched, IsTrace]

theorem regClass_eq_control_iff (r : Reg) :
    regClass r = .control ↔ r = .id ∨ r = .cmd ∨ r = .status ∨ r = .irqen ∨ r = .info := by
  cases r <;> simp [regClass]

theorem readOnly_iff (r : Reg) : readOnly r = true ↔ r = .id ∨ r = .info ∨ regClass r = .output := by
  cases r <;> simp [readOnly, regClass]

/-- Settles O8: an offset and its register determine each other; the classes register by register. -/
theorem registerMapIsExact : Obligations.RegisterMapIsExact :=
  ⟨fun _ _ => regAt_eq_some_iff, rfl, rfl, rfl, rfl, rfl, rfl, rfl, fun _ => rfl, fun _ => rfl, fun _ => rfl, fun _ => rfl,
    fun _ => rfl, fun _ => rfl, fun _ _ => rfl, regClass_eq_input_iff, regClass_eq_output_iff, regClass_eq_control_iff,
    readOnly_iff⟩

end Sys2Proof.Machine
end

section
/-! PROOF. The host's reads and writes on its own turn, by the register they reach (20 R52 to R55, R61, R62). -/
namespace Sys2Proof.Machine
open Sys2Proof.Claims

section
variable {s : State} {a : Addr} {r : Reg} {v : Word} {ts : List Turn} {rest : List HostOp}

/-- On the host's turn its next transaction, a read, is performed. -/
theorem step_of_hostTurn_read (h : HostTurn s (.read a) ts rest) :
    step s = .next (State.busRead { s with turns := ts, host := rest } a) := by
  obtain ⟨hpin, hhost, hturns⟩ := h
  rw [step_of_turns_host hturns, hostStep_of_host_read (s := { s with turns := ts }) hhost, if_pos hpin]

/-- On the host's turn its next line, a WAIT, polls STATUS (30 R80). -/
theorem step_of_hostTurn_wait (h : HostTurn s .wait ts rest) : step s = .next (State.poll { s with turns := ts } rest) := by
  obtain ⟨-, hhost, hturns⟩ := h
  rw [step_of_turns_host hturns, hostStep_of_host_wait (s := { s with turns := ts }) hhost]

/-- On the host's turn a write to a register, but the SRST word to CMD, is the register's write. -/
theorem step_of_hostTurn_writeReg (h : HostTurn s (.write (offsetOf r) v) ts rest) (hr : r ≠ .cmd ∨ v ≠ srstWord) :
    step s = .next (State.writeReg { s with turns := ts, host := rest } r v) := by
  rw [step_of_hostTurn_write h, writeStep_offsetOf hr]

theorem busRead_of_regAt_none (ha : regAt a = none) : s.busRead a = s.respond (.read .slverr 0) := by
  simp only [State.busRead, ha]

theorem busWrite_of_regAt_none (ha : regAt a = none) : s.busWrite a v = s.respond (.write .slverr) := by
  simp only [State.busWrite, ha]

theorem busWrite_of_regAt_some (ha : regAt a = some r) : s.busWrite a v = s.writeReg r v := by
  simp only [State.busWrite, ha]

theorem writeStep_of_regAt_none (ha : regAt a = none) : writeStep a v s = .next (s.respond (.write .slverr)) := by
  simp [writeStep, runsAtWrite, ha, busWrite_of_regAt_none ha]

/-- An output register read while BUSY = 1 answers a draw (20 R61, log 3). -/
theorem busRead_of_output_of_busy (hr : regClass r = .output) (hb : s.busy = true) :
    s.busRead (offsetOf r) = s.drawRead := by
  simp only [State.busRead, regAt_offsetOf, hr, hb, and_self, if_true]

/-- Every other read of a register answers its view (20 R61). -/
theorem busRead_of_readable (h : regClass r ≠ .output ∨ s.busy = false) :
    s.busRead (offsetOf r) = s.respond (.read .okay (view s r)) := by
  have hnot : ¬ (regClass r = .output ∧ s.busy = true) := by
    rintro ⟨hr, hb⟩
    exact h.elim (· hr) (by simp [hb])
  simp only [State.busRead, regAt_offsetOf, if_neg hnot]

theorem writeReg_of_readOnly (hr : readOnly r = true) : s.writeReg r v = s.respond (.write .slverr) := by
  cases r with
  | cmd | status | irqen | xin | key | bin | seg => cases hr
  | _ => rfl

theorem writeReg_of_input (hr : regClass r = .input) : s.writeReg r v = s.writeInput r v := by
  cases r with
  | xin | key | bin | seg => rfl
  | _ => cases hr

theorem writeInput_of_busy (hb : s.busy = true) : s.writeInput r v = s.refuse := if_pos hb

theorem writeInput_of_idle (hb : s.busy = false) : s.writeInput r v = (s.setInput r v).respond (.write .okay) :=
  if_neg (by simp [hb])

/-- On the host's turn a read of an address that holds no register answers SLVERR and 0 (20 R52, R54). -/
theorem step_read_of_regAt_none (ha : regAt a = none) (h : HostTurn s (.read a) ts rest) :
    step s = .next (answered s ts rest (.read .slverr 0)) := by
  rw [step_of_hostTurn_read h, busRead_of_regAt_none ha]
  rfl

/-- On the host's turn a write to an address that holds no register answers SLVERR (20 R52, R54). -/
theorem step_write_of_regAt_none (ha : regAt a = none) (h : HostTurn s (.write a v) ts rest) :
    step s = .next (answered s ts rest (.write .slverr)) := by
  rw [step_of_hostTurn_write h, writeStep_of_regAt_none ha]
  rfl

/-- On the host's turn a write to a read-only register answers SLVERR (20 R55). -/
theorem step_write_of_readOnly (hr : readOnly r = true) (h : HostTurn s (.write (offsetOf r) v) ts rest) :
    step s = .next (answered s ts rest (.write .slverr)) := by
  have hcmd : r ≠ .cmd := by
    rintro rfl
    cases hr
  rw [step_of_hostTurn_writeReg h (.inl hcmd), writeReg_of_readOnly hr]
  rfl

end

/-- Settles O9: a misaligned and a reserved offset hold no register; the registers named are the read-only ones. -/
theorem badAccessesChangeNothing : Obligations.BadAccessesChangeNothing := by
  intro s a v ts rest
  refine ⟨fun ha => step_read_of_regAt_none (regAt_eq_none_of_misaligned ha),
    fun ha => step_write_of_regAt_none (regAt_eq_none_of_misaligned ha),
    fun ha => step_read_of_regAt_none (regAt_eq_none_of_reserved ha),
    fun ha => step_write_of_regAt_none (regAt_eq_none_of_reserved ha), fun r hr => step_write_of_readOnly ?_⟩
  rw [readOnly_iff, regClass_eq_output_iff]
  exact hr

/-- A word of the trace reads as stored where the entry is valid and the word is the descriptor or of a present field; the
sub-slots 1 to 6 are the words 4 to 27 (10 R37, R38). -/
theorem traceView_eq_ite (s : State) (e : Fin 15) (w : Fin 32) :
    traceView s e w =
      if s.tv = true ∧ e.val < s.tnum.toNat ∧
          (w.val = 0 ∨ (4 ≤ w.val ∧ w.val ≤ 27 ∧ s.trace[e][(0 : Fin 32)].getLsbD (16 + w.val / 4) = true))
      then s.trace[e][w] else 0 := by
  unfold traceView presentBit
  by_cases hinvalid : s.tv = false ∨ s.tnum.toNat ≤ e.val
  · rw [if_pos hinvalid, if_neg]
    rintro ⟨htv, he, -⟩
    rcases hinvalid with hf | hle
    · simp [hf] at htv
    · omega
  · rw [if_neg hinvalid]
    obtain ⟨htv, he⟩ := not_or.mp hinvalid
    have htv : s.tv = true := by simpa using htv
    have he : e.val < s.tnum.toNat := by omega
    simp only [htv, he, true_and]
    by_cases hw : w.val = 0
    · have hw0 : w = 0 := Fin.ext hw
      simp [hw0]
    · have hslot : 1 ≤ w.val / 4 ∧ w.val / 4 ≤ 6 ↔ 4 ≤ w.val ∧ w.val ≤ 27 := by omega
      simp only [hw, if_false, false_or, ← and_assoc, hslot]

theorem plainViews (s : State) : PlainViews s :=
  ⟨rfl, rfl, rfl, rfl, fun _ => rfl, fun _ => rfl, fun _ => rfl, fun _ => rfl, fun _ => rfl, fun _ => rfl,
    traceView_eq_ite s⟩

/-- One poll with the pin released: it reads STATUS, and the WAIT stays exactly while BUSY = 1 (30 R80, log 15). -/
theorem poll_of_high {s : State} (hn : s.rstN = true) (rest : List HostOp) :
    s.poll rest =
      State.respond { s with host := if s.busy = true then s.host else rest } (.read .okay (view s .status)) := by
  have hread := busRead_of_readable (s := s) (r := .status) (.inl (by decide))
  have hbit : (statusWord s).getLsbD 0 = s.busy := by simp
  rw [State.poll, if_pos hn, hread, hbit]
  split <;> rfl

/-- Settles O10: the views by their equations, a WAIT by its poll, a read by the address and BUSY. -/
theorem hostReadAnswers : Obligations.HostReadAnswers := by
  refine ⟨fun s => ⟨plainViews s, statusAndInfoFields s, rfl⟩,
    fun s ts rest => ⟨fun _ => step_read_of_regAt_none, fun h => ?_, fun r h => ?_⟩⟩
  · rw [step_of_hostTurn_wait h]
    obtain ⟨hpin, hhost, -⟩ := h
    rw [poll_of_high (s := { s with turns := ts }) hpin, view_turns, ← hhost]
    rfl
  · rw [step_of_hostTurn_read h]
    refine ⟨fun hr hb => ?_, fun hr => ?_⟩
    · rw [busRead_of_output_of_busy (s := { s with turns := ts, host := rest }) hr hb]
      rfl
    · rw [busRead_of_readable (s := { s with turns := ts, host := rest }) hr, view_host, view_turns]
      rfl

section
variable {s : State} {r : Reg} {v : Word} {ts : List Turn} {rest : List HostOp}

/-- On the host's turn a write to an input register asks for BUSY (20 R62). -/
theorem step_write_of_input (hr : regClass r = .input) (h : HostTurn s (.write (offsetOf r) v) ts rest) :
    step s = .next (State.writeInput { s with turns := ts, host := rest } r v) := by
  have hcmd : r ≠ .cmd := by
    rintro rfl
    cases hr
  rw [step_of_hostTurn_writeReg h (.inl hcmd), writeReg_of_input hr]

/-- While a command is in flight it is refused and its value dropped (20 R62, 70 R191). -/
theorem step_write_of_input_of_busy (hr : regClass r = .input) (hb : s.busy = true)
    (h : HostTurn s (.write (offsetOf r) v) ts rest) :
    step s = .next { answered s ts rest (.write .slverr) with ovr := true } := by
  rw [step_write_of_input hr h, writeInput_of_busy (s := { s with turns := ts, host := rest }) hb]
  rfl

/-- With none in flight the register takes the value (20 R62). -/
theorem step_write_of_input_of_idle (hr : regClass r = .input) (hb : s.busy = false)
    (h : HostTurn s (.write (offsetOf r) v) ts rest) :
    step s = .next (State.respond (State.setInput { s with turns := ts, host := rest } r v) (.write .okay)) := by
  rw [step_write_of_input hr h, writeInput_of_idle (s := { s with turns := ts, host := rest }) hb]

end

/-- Settles O14: by BUSY, for every input register. -/
theorem inputWrite : Obligations.InputWrite := fun _ _ _ _ =>
  ⟨fun _ hr hb h => step_write_of_input_of_busy hr hb h, fun hb =>
    ⟨step_write_of_input_of_idle rfl hb, fun _ => step_write_of_input_of_idle rfl hb, fun _ => step_write_of_input_of_idle rfl hb,
      fun _ => step_write_of_input_of_idle rfl hb⟩⟩

/-! ### Side effects (20 R63) -/

theorem busRead_pend (s : State) (a : Addr) : (s.busRead a).pend = s.pend := by
  rcases busRead_cases s a with ⟨-, h⟩ | ⟨_, -, -, -, h⟩ | ⟨_, -, -, h⟩ <;> rw [h] <;> rfl

/-- Setting an input register does not ask for the response. -/
theorem setInput_respond (s : State) (r : Reg) (v : Word) (x : Response) :
    (s.respond x).setInput r v = (s.setInput r v).respond x := by
  cases r <;> rfl

theorem setInput_setInput (s : State) (r : Reg) (v : Word) : (s.setInput r v).setInput r v = s.setInput r v := by
  cases r with
  | key | bin | seg => simp [State.setInput]
  | _ => rfl

theorem clearStatus_respond (s : State) (v : Word) (x : Response) :
    (s.respond x).clearStatus v = (s.clearStatus v).respond x := rfl

theorem clearStatus_clearStatus (s : State) (v : Word) : (s.clearStatus v).clearStatus v = s.clearStatus v := by
  simp [State.clearStatus]

theorem setInput_busy (s : State) (r : Reg) (v : Word) : (s.setInput r v).busy = s.busy := by
  rw [State.busy, State.setInput_pend, State.busy]

/-- A write to a register other than CMD is idempotent. -/
theorem writeReg_writeReg {r : Reg} (hr : r ≠ .cmd) (s : State) (v : Word) :
    (s.writeReg r v).writeReg r v = s.writeReg r v := by
  rcases writeReg_cases s r v with ⟨hro, hw⟩ | ⟨rfl, hw⟩ | ⟨rfl, -⟩ | ⟨hin, hb, hw⟩ | ⟨hcmd, -⟩ | ⟨hin, hb, hw⟩
  · rw [hw, writeReg_of_readOnly hro]
    rfl
  · rw [hw, State.writeReg, clearStatus_respond, clearStatus_clearStatus]
    rfl
  · rfl
  · have hbusy : s.refuse.busy = true := hb
    rw [hw, writeReg_of_input (hin.resolve_left hr), writeInput_of_busy hbusy]
    rfl
  · exact absurd hcmd hr
  · have hidle : ((s.setInput r v).respond (.write .okay)).busy = false := (setInput_busy s r v).trans hb
    rw [hw, writeReg_of_input hin, writeInput_of_idle hidle, setInput_respond, setInput_setInput]
    rfl

/-- A write to an address that is not CMD's is idempotent. -/
theorem busWrite_busWrite {a : Addr} (ha : regAt a ≠ some .cmd) (s : State) (v : Word) :
    (s.busWrite a v).busWrite a v = s.busWrite a v := by
  cases hr : regAt a with
  | none =>
    simp only [busWrite_of_regAt_none hr]
    rfl
  | some r =>
    have hcmd : r ≠ .cmd := fun h => ha (hr.trans (congrArg some h))
    simp only [busWrite_of_regAt_some hr, writeReg_writeReg hcmd]

/-- Settles O15: the second write to CMD finds BUSY = 1 and is refused, so its response tells it from the first. -/
theorem accessesAndSideEffects : Obligations.AccessesAndSideEffects := by
  refine ⟨fun s a r => ⟨view_busRead s a r, busRead_pend s a⟩, fun s a v ha => busWrite_busWrite ha s v, fun s v hb _ h => ?_⟩
  have hfirst : s.busWrite (offsetOf .cmd) v = (s.accept v).respond (.write .okay) := by
    rw [busWrite_of_regAt_some (regAt_offsetOf _), State.writeReg, State.writeCmd, if_neg (by simp [hb])]
  have hsecond : (s.busWrite (offsetOf .cmd) v).busWrite (offsetOf .cmd) v = ((s.accept v).respond (.write .okay)).refuse := by
    rw [hfirst, busWrite_of_regAt_some (regAt_offsetOf _)]
    rfl
  rw [hsecond, hfirst] at h
  exact absurd (congrArg State.rsp h) (by simp)

end Sys2Proof.Machine
end

section
/-! PROOF. How BUSY begins and what a command in flight holds fast (20 R66, R67): what each mover can do, by BUSY after its step. -/
namespace Sys2Proof.Machine
open Sys2Proof.Claims

/-- What stays while a command is in flight: PEND, CMD, the input registers, the output registers and INFO (20 R67). -/
def State.heldInFlight (s : State) :=
  ((s.pend, s.cmd), (s.xin, s.key, s.bin, s.seg), s.result, s.bout, s.kout, s.sched, s.trace, view s .info)

section
variable {s t : State}

/-- BUSY is the validity of PEND (log 5). -/
theorem busy_eq_of_heldInFlight_eq (h : t.heldInFlight = s.heldInFlight) : t.busy = s.busy :=
  congrArg (fun held => held.1.1.isSome) h

/-- The host's next transaction is its write of a word other than SRST's to CMD, and the step to `t` accepts it (10 R22(b)). -/
abbrev AcceptsCommand (s t : State) : Prop :=
  s.busy = false ∧ s.rstN = true ∧
    ∃ v rest, s.host = .write (offsetOf .cmd) v :: rest ∧ v ≠ srstWord ∧ t.pend = some v ∧ t.rsp = some (.write .okay)

theorem busRead_heldInFlight (s : State) (a : Addr) : (s.busRead a).heldInFlight = s.heldInFlight := by
  rcases busRead_cases s a with ⟨-, h⟩ | ⟨_, -, -, -, h⟩ | ⟨_, -, -, h⟩ <;> rw [h] <;> rfl

theorem poll_heldInFlight (s : State) (rest : List HostOp) : (s.poll rest).heldInFlight = s.heldInFlight := by
  unfold State.poll
  split
  · split <;> exact busRead_heldInFlight s _
  · rfl

/-- A register write leaves BUSY = 0 or a command in flight as it was, or it is an accepted write to CMD. -/
theorem writeReg_cases_by_busy (s : State) (r : Reg) (v : Word) :
    (s.writeReg r v).busy = false ∨ (s.writeReg r v).heldInFlight = s.heldInFlight ∨
      (r = .cmd ∧ s.busy = false ∧ (s.writeReg r v).pend = some v ∧ (s.writeReg r v).rsp = some (.write .okay)) := by
  rcases writeReg_cases s r v with ⟨-, hw⟩ | ⟨-, hw⟩ | ⟨-, hw⟩ | ⟨-, -, hw⟩ | ⟨hr, hb, hw⟩ | ⟨-, hb, hw⟩ <;> rw [hw]
  case inr.inr.inr.inr.inl => exact .inr (.inr ⟨hr, hb, rfl, rfl⟩)
  case inr.inr.inr.inr.inr => exact .inl ((setInput_busy s r v).trans hb)
  all_goals exact .inr (.inl rfl)

theorem writeStep_cases_by_busy {a : Addr} {v : Word} (h : writeStep a v s = .next t) :
    t.busy = false ∨ t.heldInFlight = s.heldInFlight ∨
      (a = offsetOf .cmd ∧ v ≠ srstWord ∧ s.busy = false ∧ t.pend = some v ∧ t.rsp = some (.write .okay)) := by
  obtain ⟨-, -, rfl⟩ | ⟨hnot, rfl⟩ := writeStep_cases h
  · exact .inl rfl
  · cases ha : regAt a with
    | none => exact .inr (.inl (by rw [busWrite_of_regAt_none ha]; rfl))
    | some r =>
      rw [busWrite_of_regAt_some ha]
      refine (writeReg_cases_by_busy s r v).imp_right (.imp_right ?_)
      rintro ⟨rfl, hb, hpend, hrsp⟩
      refine ⟨eq_offsetOf_of_regAt ha, fun hv => ?_, hb, hpend, hrsp⟩
      rw [runsAtWrite, if_pos ⟨ha, hv⟩] at hnot
      cases hnot

theorem hostStep_cases_by_busy (h : hostStep s = .next t) :
    t.busy = false ∨ t.heldInFlight = s.heldInFlight ∨ AcceptsCommand s t := by
  rcases hostStep_cases h with ⟨-, rfl⟩ | ⟨rest, -, rfl⟩ | ⟨a, rest, -, -, rfl⟩ | ⟨a, v, rest, hh, hn, hw⟩ | ⟨_, rest, -, -, rfl⟩
  · exact .inr (.inl rfl)
  · exact .inr (.inl (poll_heldInFlight s rest))
  · exact .inr (.inl (busRead_heldInFlight { s with host := rest } a))
  · refine (writeStep_cases_by_busy hw).imp_right (.imp_right ?_)
    rintro ⟨rfl, hv, hb, hpend, hrsp⟩
    exact ⟨hb, hn, v, rest, hh, hv, hpend, hrsp⟩
  · exact .inr (.inl rfl)

/-- The engine's step completes the command in flight, or there is none (60 R161). -/
theorem engineStep_cases_by_busy (h : engineStep s = .next t) : t.busy = false ∨ t.heldInFlight = s.heldInFlight := by
  rcases engineStep_cases h with ⟨-, rfl⟩ | ⟨w, i, -, -, hx⟩ | ⟨w, e, -, -, rfl⟩
  · exact .inr rfl
  · obtain ⟨-, rfl⟩ | ⟨-, o, rfl⟩ := exec_cases hx
    · exact .inl rfl
    · exact .inl (completed_busy i.opcode s o)
  · exact .inl rfl

/-- A pin event abandons the command in flight (70 R185). -/
theorem drivePin_cases_by_busy (s : State) (level : Bool) :
    (s.drivePin level).busy = false ∨ (s.drivePin level).heldInFlight = s.heldInFlight := by
  unfold State.drivePin
  split
  · exact .inr rfl
  · exact .inl rfl

/-- A step leaves BUSY = 0, or what a command in flight holds as it was, or it is the host's accepted write to CMD. -/
theorem step_cases_by_busy (h : step s = .next t) :
    t.busy = false ∨ t.heldInFlight = s.heldInFlight ∨
      (AcceptsCommand s t ∧ (s.turns = [] ∨ ∃ ts, s.turns = .host :: ts)) := by
  rcases step_cases h with ⟨-, -, he⟩ | ⟨ht, -, hh⟩ | ⟨ts, ht, hh⟩ | ⟨ts, -, he⟩ | ⟨ts, -, rfl⟩ | ⟨level, ts, -, rfl⟩
  · exact (engineStep_cases_by_busy he).imp_right .inl
  · exact (hostStep_cases_by_busy hh).imp_right (.imp_right (⟨·, .inl ht⟩))
  · exact (hostStep_cases_by_busy hh).imp_right (.imp_right (⟨·, .inr ⟨ts, ht⟩⟩))
  · exact (engineStep_cases_by_busy he).imp_right .inl
  · exact .inr (.inl rfl)
  · exact (drivePin_cases_by_busy { s with turns := ts } level).imp_right .inl

end

/-- Settles O55: of what a step can do, BUSY before it rules out an acceptance and BUSY after it the end of the command. -/
theorem inFlightCommandIsFrozen : Obligations.InFlightCommandIsFrozen := by
  intro s t hs h ht
  obtain hidle | hheld | ⟨⟨hidle, -⟩, -⟩ := step_cases_by_busy h
  · exact absurd ht (by simp [hidle])
  · simp only [State.heldInFlight, Prod.mk.injEq] at hheld
    obtain ⟨⟨hpend, hcmd⟩, hinputs, houtputs⟩ := hheld
    exact ⟨hpend, hcmd, hinputs, houtputs⟩
  · exact absurd hs (by simp [hidle])

/-- Settles O57: of what a step can do, only the acceptance of a command takes BUSY from 0 to 1. -/
theorem busyBeginsOnlyAtCommandWrite : Obligations.BusyBeginsOnlyAtCommandWrite := by
  intro s t hs h ht
  obtain hidle | hheld | ⟨⟨-, hpin, v, rest, hhost, hv, hpend, hrsp⟩, hturns⟩ := step_cases_by_busy h
  · exact absurd ht (by simp [hidle])
  · rw [busy_eq_of_heldInFlight_eq hheld, hs] at ht
    cases ht
  · exact ⟨v, rest, hhost, hv, hpin, hturns, hpend, hrsp⟩

end Sys2Proof.Machine
end

section
/-! PROOF. The encoding: a word is its four fields, which words decode and to what, and the rows of the opcode table
(30 R71 to R77). -/
namespace Sys2Proof.Machine
open Sys2Proof.Claims

/-- The four fields of a word determine it (30 R71). -/
theorem fieldsOf_injective : Function.Injective fieldsOf := by
  intro w v h
  simp only [fieldsOf, Command.mk.injEq] at h
  obtain ⟨hop, hfa, hfb, hrsv⟩ := h
  rw [eq_packWord_fields w, eq_packWord_fields v, hop, hfa, hfb, hrsv]

/-- The encodings with RSV = 0 are the words whose fields are those encoded (30 R73). -/
theorem eq_encFields_iff {w : Word} {op fa fb : Byte} : w = encFields op fa fb ↔ fieldsOf w = ⟨op, fa, fb, 0⟩ := by
  rw [← fieldsOf_encFields, fieldsOf_injective.eq_iff]

/-! ### Which fields decode, and to what -/

theorem decodeFields_fields (i : Instr) : decodeFields ⟨i.opcode, i.fa, i.fb, 0⟩ = .ok i := by cases i <;> rfl

/-- A field tuple has no meaning but that of the command it is made of (30 R74, R76). -/
theorem decodeFields_eq_ok_iff {c : Command} {i : Instr} : decodeFields c = .ok i ↔ c = ⟨i.opcode, i.fa, i.fb, 0⟩ := by
  refine ⟨fun h => ?_, fun h => h ▸ decodeFields_fields i⟩
  obtain ⟨op, fa, fb, rsv⟩ := c
  unfold decodeFields at h
  split at h
  case h_15 => cases h
  all_goals
    rename_i hop
    obtain ⟨hz, rfl⟩ := whenZero_eq_ok h
    simp only [Bool.and_eq_true, beq_iff_eq] at hz
    simp [Instr.opcode, Instr.fa, Instr.fb, ← BitVec.toNat_inj (x := op), hop, hz]

/-- Settles O1: both sides say that the fields of the word are the command's. -/
theorem decodeInvertsEncode : Obligations.DecodeInvertsEncode := fun _ _ =>
  decodeFields_eq_ok_iff.trans eq_encFields_iff.symm

theorem whenZero_cases {c : Command} {ok : Bool} (i : Instr) (hop : c.opAssigned = true) (hwf : c.wf = ok) :
    (c.opAssigned = true ∧ c.wf = false ∧ whenZero ok i = .error .reserved) ∨ (c.wf = true ∧ ∃ j, whenZero ok i = .ok j) := by
  cases ok with
  | false => exact .inl ⟨hop, hwf, rfl⟩
  | true => exact .inr ⟨hwf, i, rfl⟩

/-- The three outcomes of decoding: an unassigned OP, a reserved or unused field that is set, or a command (30 R75, R76). -/
theorem decodeFields_cases (c : Command) :
    (c.opAssigned = false ∧ decodeFields c = .error .illegalOp) ∨
      (c.opAssigned = true ∧ c.wf = false ∧ decodeFields c = .error .reserved) ∨
        (c.wf = true ∧ ∃ i, decodeFields c = .ok i) := by
  unfold decodeFields
  split
  case h_15 => exact .inl ⟨by simp [Command.opAssigned, usedFields, *], rfl⟩
  all_goals
    rename_i hop
    have hassigned : c.opAssigned = true := by simp [Command.opAssigned, usedFields, hop]
    have hwf : c.wf = (c.rsvZero && c.unusedZero) := by rw [Command.wf, hassigned, Bool.true_and]
    refine .inr (whenZero_cases _ hassigned (hwf.trans ?_))
    simp [Command.rsvZero, Command.unusedZero, usedFields, hop, Bool.and_assoc]

theorem decodeFields_of_not_opAssigned {c : Command} (h : c.opAssigned = false) : decodeFields c = .error .illegalOp := by
  obtain ⟨-, hd⟩ | ⟨hop, -⟩ | ⟨hwf, -⟩ := decodeFields_cases c
  · exact hd
  · simp [h] at hop
  · simp [Command.wf, h] at hwf

theorem decodeFields_of_not_wf {c : Command} (hop : c.opAssigned = true) (hwf : c.wf = false) :
    decodeFields c = .error .reserved := by
  obtain ⟨hop', -⟩ | ⟨-, -, hd⟩ | ⟨hwf', -⟩ := decodeFields_cases c
  · simp [hop] at hop'
  · exact hd
  · simp [hwf] at hwf'

/-- The legal field tuples are those of the commands (30 R76). -/
theorem exists_decodeFields_eq_ok_iff {c : Command} : (∃ i, decodeFields c = .ok i) ↔ c.wf = true := by
  obtain ⟨hop, hd⟩ | ⟨-, hwf, hd⟩ | ⟨hwf, hd⟩ := decodeFields_cases c
  · simp [hd, Command.wf, hop]
  · simp [hd, hwf]
  · exact iff_of_true hd hwf

/-! ### Assigned opcodes and reserved fields -/

/-- The unassigned OP values are the four ranges of 30 R75. -/
theorem illegalOpcode_iff (op : Byte) : IllegalOpcode op ↔ usedFields op = none := by
  unfold usedFields
  split
  case h_15 => simp only [imp_false, IllegalOpcode, iff_true] at *; omega
  all_goals simp [IllegalOpcode, *]

theorem usedFields_le_two {op : Byte} {n : Nat} (h : usedFields op = some n) : n ≤ 2 := by
  unfold usedFields at h
  split at h <;> cases h <;> decide

theorem usedFields_eq_zero_iff (op : Byte) :
    usedFields op = some 0 ↔ op = 0x00 ∨ op = 0x05 ∨ op = 0x06 ∨ op = 0x3F := by
  unfold usedFields
  split <;> simp_all [← BitVec.toNat_inj]

theorem usedFields_eq_one_iff (op : Byte) : usedFields op = some 1 ↔ op = 0x02 ∨ op = 0x03 ∨ op = 0x04 := by
  unfold usedFields
  split <;> simp_all [← BitVec.toNat_inj]

/-- Fields of an assigned OP are legal exactly when RSV and the fields the OP leaves unused are 0 (30 R76). -/
theorem wf_iff {c : Command} {n : Nat} (h : usedFields c.op = some n) :
    c.wf = true ↔ c.rsv = 0 ∧ (n = 0 → c.fa = 0) ∧ (n ≤ 1 → c.fb = 0) := by
  have hwf : c.wf = (c.rsvZero && c.unusedZero) := by simp [Command.wf, Command.opAssigned, h]
  simp only [hwf, Command.rsvZero, Command.unusedZero, h]
  match n, usedFields_le_two h with
  | 0, _ | 1, _ | 2, _ => simp

theorem reservedSet_iff {w : Word} {n : Nat} (h : usedFields (opField w) = some n) :
    ReservedSet w ↔ (fieldsOf w).wf = false := by
  rw [← Bool.not_eq_true, wf_iff (c := fieldsOf w) h]
  simp only [ReservedSet, ← usedFields_eq_one_iff, ← usedFields_eq_zero_iff, h, fieldsOf]
  match n, usedFields_le_two h with
  | 0, _ | 1, _ | 2, _ => simp [imp_iff_not_or]

/-! ### What a word does at its write and at its completion -/

section
variable {s : State} {w : Word}

/-- An idle engine accepts every word but the SRST word (10 R22(b)). -/
theorem writeStep_cmd_of_idle (hw : w ≠ srstWord) (hb : s.busy = false) :
    writeStep (offsetOf .cmd) w s = .next ((s.accept w).respond (.write .okay)) := by
  rw [writeStep_offsetOf (.inr hw)]
  simp [State.writeReg, State.writeCmd, hb]

/-- A busy engine refuses every word but the SRST word (10 R22(c)). -/
theorem writeStep_cmd_of_busy (hw : w ≠ srstWord) (hb : s.busy = true) :
    writeStep (offsetOf .cmd) w s = .next s.refuse := by
  rw [writeStep_offsetOf (.inr hw)]
  simp [State.writeReg, State.writeCmd, hb]

/-- A word that is no command completes with its error and no other effect (30 R75, R76; 60 R163). -/
theorem engineStep_of_decode_error (hn : s.rstN = true) (hp : s.pend = some w) {e : DecodeError}
    (hd : decode w = .error e) : engineStep s = .next (failure (opField w) (decodeErrorCode e) s) := by
  have hflight : s.inFlight = some w := inFlight_eq_some.mpr ⟨hn, hp⟩
  simp only [engineStep, hflight, hd]
  cases e <;> rfl

theorem engineStep_of_illegalOpcode (hn : s.rstN = true) (hp : s.pend = some w) (hop : IllegalOpcode (opField w)) :
    engineStep s = .next (failure (opField w) .illop s) := by
  have hused : usedFields (opField w) = none := (illegalOpcode_iff _).mp hop
  exact engineStep_of_decode_error hn hp (decodeFields_of_not_opAssigned (by simp [Command.opAssigned, fieldsOf, hused]))

theorem engineStep_of_reservedSet (hn : s.rstN = true) (hp : s.pend = some w) (hop : ¬ IllegalOpcode (opField w))
    (hres : ReservedSet w) : engineStep s = .next (failure (opField w) .rsvd s) := by
  rw [illegalOpcode_iff] at hop
  obtain ⟨n, hused⟩ := Option.ne_none_iff_exists'.mp hop
  have hassigned : (fieldsOf w).opAssigned = true := by simp [Command.opAssigned, fieldsOf, hused]
  exact engineStep_of_decode_error hn hp (decodeFields_of_not_wf hassigned ((reservedSet_iff hused).mp hres))

end

/-- Settles O2: no illegal OP is SRST's, so the word is accepted; it decodes to the error of an unassigned OP. -/
theorem illegalOpcodeCompletesWithIllop : Obligations.IllegalOpcodeCompletesWithIllop := by
  intro s w hn hop
  have hw : w ≠ srstWord := by rintro rfl; exact absurd hop (by decide)
  exact ⟨writeStep_cmd_of_idle hw, fun hp => engineStep_of_illegalOpcode hn hp hop⟩

/-! ### The rows of the opcode table -/

/-- The bits a row of the table compares for a command of `n` operand fields: RSV, OP and the fields left unused (30 R76). -/
def comparedBits : Nat → Word
  | 0 => 0xFFFFFFFF
  | 1 => 0xFFFF00FF
  | _ => 0xFF0000FF

/-- A row is made of its OP: the pattern is the OP alone, the mask compares what the OP does not use as an operand. -/
theorem row_of_mem_opcodeTable : ∀ row ∈ opcodeTable, row.pattern = encFields (opField row.pattern) 0 0 ∧
    (usedFields (opField row.pattern)).map comparedBits = some row.mask := by decide

theorem fieldsOf_and (w m : Word) : fieldsOf (w &&& m) =
    ⟨opField w &&& opField m, faField w &&& faField m, fbField w &&& fbField m, rsvField w &&& rsvField m⟩ := by
  simp only [fieldsOf, opField, faField, fbField, rsvField, BitVec.extractLsb'_and]

theorem fieldsOf_and_comparedBits (w : Word) {n : Nat} (h : n ≤ 2) : fieldsOf (w &&& comparedBits n) =
    ⟨opField w, if n = 0 then faField w else 0, if n ≤ 1 then fbField w else 0, rsvField w⟩ := by
  have hmask : fieldsOf (comparedBits n) = ⟨0xFF, if n = 0 then 0xFF else 0, if n ≤ 1 then 0xFF else 0, 0xFF⟩ := by
    match n, h with
    | 0, _ | 1, _ | 2, _ => decide
  have hones : ∀ b : Byte, b &&& 255#8 = b := fun _ => BitVec.and_allOnes
  obtain ⟨hop, hfa, hfb, hrsv⟩ := Command.mk.inj hmask
  rw [fieldsOf_and, hop, hfa, hfb, hrsv]
  simp [hones, apply_ite]

/-- A row accepts the legal words of its OP (30 R76). -/
theorem accepts_iff {row : OpcodeRow} (h : row ∈ opcodeTable) (w : Word) :
    row.accepts w = true ↔ (fieldsOf w).wf = true ∧ opField w = opField row.pattern := by
  obtain ⟨hpattern, hmask⟩ := row_of_mem_opcodeTable row h
  obtain ⟨n, hused, hm⟩ := Option.map_eq_some_iff.mp hmask
  have hn := usedFields_le_two hused
  rw [OpcodeRow.accepts, beq_iff_eq, ← hm, hpattern, eq_encFields_iff, fieldsOf_and_comparedBits w hn, opField_encFields,
    Command.mk.injEq, and_comm (b := opField w = _)]
  refine and_congr_right fun hw => ?_
  rw [wf_iff (c := fieldsOf w) (hw ▸ hused)]
  simp only [fieldsOf, ite_eq_right_iff]
  tauto

/-- The OP of a mnemonic (30 R74). -/
def opcodeOf : Mnemonic → Byte
  | .nop => 0x00
  | .gfmul => 0x01
  | .sbox => 0x02
  | .invsbox => 0x03
  | .rcon => 0x04
  | .mixcol => 0x05
  | .invmixcol => 0x06
  | .expand => 0x10
  | .derive => 0x11
  | .enc => 0x20
  | .dec => 0x21
  | .enct => 0x22
  | .dect => 0x23
  | .srst => 0x3F

theorem opcode_eq_opcodeOf (i : Instr) : i.opcode = opcodeOf i.mnemonic := by cases i <;> rfl

/-- The rows have distinct OPs, one for each mnemonic. -/
theorem opcodeOf_eq_iff {row : OpcodeRow} (h : row ∈ opcodeTable) (m : Mnemonic) :
    opcodeOf m = opField row.pattern ↔ m = row.mnemonic := by
  revert row
  cases m <;> decide

theorem opField_of_decode {w : Word} {i : Instr} (h : decode w = .ok i) : opField w = i.opcode := by
  rw [(decodeInvertsEncode w i).mp h, encode, opField_encFields]

/-- Settles O3: the word decodes to the error of a reserved field; a row accepts the legal words of its OP, and the legal
words are those that decode. -/
theorem reservedFieldsCompleteWithRsvd : Obligations.ReservedFieldsCompleteWithRsvd := by
  refine ⟨fun s w hn hp hop hres => engineStep_of_reservedSet hn hp hop hres, fun w row hrow => ?_⟩
  calc row.accepts w = true
      ↔ (∃ i, decode w = .ok i) ∧ opField w = opField row.pattern := by
        rw [accepts_iff hrow, ← exists_decodeFields_eq_ok_iff]; rfl
    _ ↔ ∃ i, decode w = .ok i ∧ i.mnemonic = row.mnemonic := by
        rw [← exists_and_right]
        refine exists_congr fun i => and_congr_right fun hd => ?_
        rw [opField_of_decode hd, opcode_eq_opcodeOf, opcodeOf_eq_iff hrow]

/-! ### SRST -/

/-- The SRST word is the only word of its OP without a set field (30 R77). -/
theorem eq_srstWord_iff_fields (w : Word) :
    w = srstWord ↔ opField w = 0x3F ∧ faField w = 0 ∧ fbField w = 0 ∧ rsvField w = 0 := by
  rw [show srstWord = encFields 0x3F 0 0 by decide, eq_encFields_iff, fieldsOf, Command.mk.injEq]

/-- Settles O4: the words of SRST's OP are told apart by their fields, and all but one go the way of an ordinary command. -/
theorem srstHasOneEncoding : Obligations.SrstHasOneEncoding := by
  refine ⟨fun w => decodeInvertsEncode w .srst, ?_, writeStep_srst, ?_, ?_⟩
  · simp [runsAtWrite, srstWord]
  · intro a w i h
    obtain ⟨hi, ha, hw⟩ := runsAtWrite_eq_some h
    exact ⟨hi, hw, ha⟩
  · intro s w hn hop hw
    have hset : faField w ≠ 0 ∨ fbField w ≠ 0 ∨ rsvField w ≠ 0 := by
      by_contra hz
      simp only [not_or, not_not] at hz
      exact hw ((eq_srstWord_iff_fields w).mpr ⟨hop, hz⟩)
    have hres : ReservedSet w := by
      obtain hfa | hfb | hrsv := hset
      · exact .inr (.inr ⟨.inr (.inr (.inr hop)), .inl hfa⟩)
      · exact .inr (.inr ⟨.inr (.inr (.inr hop)), .inr hfb⟩)
      · exact .inl hrsv
    have hlegal : ¬ IllegalOpcode (opField w) := by rw [hop]; decide
    exact ⟨hset, writeStep_cmd_of_idle hw, fun hp => hop ▸ engineStep_of_reservedSet hn hp hlegal hres,
      writeStep_cmd_of_busy hw⟩

/-- Settles O5: each word is the encoding of its command; the others have an unassigned OP or a reserved field set. -/
theorem writtenOutWordsDecode : Obligations.WrittenOutWordsDecode := by
  unfold Obligations.WrittenOutWordsDecode
  decide

end Sys2Proof.Machine
end

section
/-! PROOF. The assembler: which lines have a command, and what a written line is parsed to (30 R79). -/
namespace Sys2Proof.Machine

/-- A line has a command exactly when it has a number of operands its mnemonic is written with. -/
theorem exists_instrOf_iff (m : Mnemonic) (ops : List Nat) :
    (∃ i, instrOf m ops = some i) ↔ (⟨m, ops⟩ : AsmLine).arityOk = true := by
  cases m with
  | nop | mixcol | invmixcol | srst => rcases ops with _ | ⟨a, rest⟩ <;> simp [instrOf, AsmLine.arityOk, Mnemonic.arities]
  | sbox | invsbox | rcon =>
    rcases ops with _ | ⟨a, _ | ⟨b, rest⟩⟩ <;> simp [instrOf, AsmLine.arityOk, Mnemonic.arities]
  | gfmul | expand | derive | enc | dec | enct | dect =>
    rcases ops with _ | ⟨a, _ | ⟨b, _ | ⟨c, rest⟩⟩⟩ <;> simp [instrOf, AsmLine.arityOk, Mnemonic.arities]

/-- The word of a line that an assembler takes is its command's. -/
theorem assemble_of_instrOf {m : Mnemonic} {ops : List Nat} {i : Instr} {w : Word} (hv : ∀ x ∈ ops, x ≤ 255)
    (hi : instrOf m ops = some i) (hw : encode i = w) : assemble ⟨m, ops⟩ = some w := by
  have ha : (⟨m, ops⟩ : AsmLine).arityOk = true := (exists_instrOf_iff m ops).mp ⟨i, hi⟩
  have hwf : (⟨m, ops⟩ : AsmLine).wf = true := by simpa [AsmLine.wf, ha, AsmLine.valuesOk] using hv
  simp [assemble, hwf, hi, hw]

/-- An assembler takes a line exactly when it is well formed (30 R79). -/
theorem exists_assemble_iff (l : AsmLine) : (∃ w, assemble l = some w) ↔ l.wf = true := by
  refine ⟨fun ⟨w, h⟩ => by_contra fun hwf => ?_, fun hwf => ?_⟩
  · simp [assemble, hwf] at h
  · have ⟨ha, hv⟩ := Bool.and_eq_true_iff.mp hwf
    obtain ⟨i, hi⟩ := (exists_instrOf_iff _ _).mpr ha
    exact ⟨encode i, assemble_of_instrOf (by simpa [AsmLine.valuesOk] using hv) hi rfl⟩

theorem assemble_eq_none_of_length {m : Mnemonic} {ops : List Nat} (h : ops.length ∉ m.arities) :
    assemble ⟨m, ops⟩ = none := by
  simp [assemble, AsmLine.wf, AsmLine.arityOk, h]

/-! ### Written lines -/

/-- No two mnemonics are spelled alike. -/
theorem find_mnemonicName (m : Mnemonic) :
    (allMnemonics.find? fun m' => decide ((mnemonicName m').toList = (mnemonicName m).toList)) = some m := by
  cases m <;> decide +kernel

theorem ne_space_of_mem_mnemonicName (m : Mnemonic) : ∀ c ∈ (mnemonicName m).toList, decide (c ≠ ' ') = true := by
  rw [← List.all_eq_true]
  cases m <;> decide +kernel

/-- A line that begins with a mnemonic and a space: the operands are the text after the spaces. -/
theorem parseLine_mnemonicName (m : Mnemonic) (text : List Char) (h : text.dropWhile (· = ' ') ≠ []) :
    parseLine ((mnemonicName m).toList ++ ' ' :: text) =
      (fieldValues (splitFields (text.dropWhile (· = ' ')))).map fun vs => ⟨m, vs⟩ := by
  have hname := ne_space_of_mem_mnemonicName m
  have htake : ((mnemonicName m).toList ++ ' ' :: text).takeWhile (· ≠ ' ') = (mnemonicName m).toList := by
    rw [List.takeWhile_append_of_pos hname]; simp
  have hdrop : ((mnemonicName m).toList ++ ' ' :: text).dropWhile (· ≠ ' ') = ' ' :: text := by
    rw [List.dropWhile_append_of_pos hname]; simp
  simp only [parseLine, htake, hdrop, find_mnemonicName m]
  simp [h]

/-- Operands with a space between two characters of a single field are no values. -/
theorem fieldValues_of_inner_space {a b : List Char} {x y : Char} (hx : x ≠ ' ') (hy : y ∈ b) (hs : y ≠ ' ')
    (hcomma : ',' ∉ a ++ x :: ' ' :: b) : fieldValues (splitFields (a ++ x :: ' ' :: b)) = none := by
  rw [splitFields_of_no_comma _ hcomma]
  simp [fieldValues, fieldValue_eq_none_of_space _ (stripSpaces_keeps_inner a b x y hx hy hs)]

/-- Spaces before a text that has another character: what is left of it ends as the text does. -/
theorem exists_dropWhile_space_eq (a b : List Char) {x : Char} (hx : x ≠ ' ') :
    ∃ p, (a ++ x :: b).dropWhile (· = ' ') = p ++ x :: b := by
  rw [List.dropWhile_append]
  split
  · exact ⟨[], by simp [hx]⟩
  · exact ⟨_, rfl⟩

/-- A line of a mnemonic with one operand whose operand text has a space inside is refused: with a comma there are too many
fields, without one its only field is no number. -/
theorem assembleText_of_inner_space {m : Mnemonic} (hm : m.arities = [1]) (a b : List Char) {x y : Char} (hx : x ≠ ' ')
    (hy : y ∈ b) (hs : y ≠ ' ') : assembleText ((mnemonicName m).toList ++ ' ' :: (a ++ x :: ' ' :: b)) = none := by
  obtain ⟨p, hp⟩ := exists_dropWhile_space_eq a (' ' :: b) hx
  rw [assembleText, parseLine_mnemonicName m _ (by simp [hp]), hp]
  by_cases hcomma : ',' ∈ p ++ x :: ' ' :: b
  · cases hvs : fieldValues (splitFields (p ++ x :: ' ' :: b)) with
    | none => rfl
    | some vs =>
      have hlen : vs.length ≠ 1 := by
        rw [fieldValues_length hvs, splitFields_length]
        have := List.count_pos_iff.mpr hcomma
        omega
      exact assemble_eq_none_of_length (by simpa [hm] using hlen)
  · rw [fieldValues_of_inner_space hx hy hs hcomma]
    rfl

/-- Settles O7: each form by its command, the texts by evaluation, a field with a space inside by the count of commas. -/
theorem assemblerForms : Obligations.AssemblerForms := by
  refine ⟨exists_assemble_iff, fun a b ha hb => ?_, by decide +kernel, by decide +kernel, by decide +kernel,
    by decide +kernel, by decide +kernel, by decide +kernel, fun a b x y hx hy hs => ?_⟩
  · have h0 : ∀ x ∈ ([] : List Nat), x ≤ 255 := by simp
    have h1 : ∀ x ∈ [a], x ≤ 255 := by simpa using ha
    have h2 : ∀ x ∈ [a, b], x ≤ 255 := by simpa using ⟨ha, hb⟩
    exact ⟨assemble_of_instrOf h0 rfl rfl, assemble_of_instrOf h2 rfl rfl, assemble_of_instrOf h1 rfl rfl,
      assemble_of_instrOf h1 rfl rfl, assemble_of_instrOf h1 rfl rfl, assemble_of_instrOf h0 rfl rfl,
      assemble_of_instrOf h0 rfl rfl, assemble_of_instrOf h2 rfl rfl, assemble_of_instrOf h2 rfl rfl,
      assemble_of_instrOf h1 rfl rfl, assemble_of_instrOf h2 rfl rfl, assemble_of_instrOf h1 rfl rfl,
      assemble_of_instrOf h2 rfl rfl, assemble_of_instrOf h1 rfl rfl, assemble_of_instrOf h2 rfl rfl,
      assemble_of_instrOf h1 rfl rfl, assemble_of_instrOf h2 rfl rfl, assemble_of_instrOf h0 rfl rfl⟩
  · have hsbox : "SBOX ".toList = (mnemonicName .sbox).toList ++ [' '] := by decide +kernel
    simpa [hsbox] using assembleText_of_inner_space (m := .sbox) rfl a b hx hy hs

end Sys2Proof.Machine
end

section
/-! PROOF. The product of GF(2^8): it is linear in its left operand, and a law of it holds of every byte if it holds of 0 and
survives doubling and the addition of 1 (40 R90 to R93). -/
namespace Sys2Proof.Machine
open Sys2Proof.Claims

theorem xtime_xor (a b : Byte) : xtime (a ^^^ b) = xtime a ^^^ xtime b := by
  have hbits : ∀ x y : Bool, (if x ^^ y then 0x1B else 0x00 : Byte) = (if x then 0x1B else 0) ^^^ (if y then 0x1B else 0) := by
    decide
  simp only [xtime, BitVec.shiftLeft_xor_distrib, BitVec.getLsbD_xor, hbits]
  ac_rfl

/-- A byte is twice its upper seven bits, plus its lowest bit. -/
theorem eq_xtime_shiftRight_xor (a : Byte) : a = xtime (a >>> 1) ^^^ (if a.getLsbD 0 then 1#8 else 0#8) := by
  revert a
  decide +kernel

/-- Every byte comes from 0 by doubling and adding 1, its bits from the highest down. -/
theorem byte_induction {P : Byte → Prop} (zero : P 0#8) (double : ∀ a, P a → P (xtime a))
    (addOne : ∀ a, P a → P (a ^^^ 1#8))
    (a : Byte) : P a := by
  induction h : a.toNat using Nat.strong_induction_on generalizing a with
  | _ n ih =>
    by_cases ha : a = 0#8
    · exact ha ▸ zero
    have hpos : a.toNat ≠ 0 := fun h0 => ha (BitVec.eq_of_toNat_eq h0)
    have hlt : (a >>> 1).toNat < n := by
      rw [BitVec.toNat_ushiftRight, Nat.shiftRight_eq_div_pow]
      omega
    have hdouble : P (xtime (a >>> 1)) := double _ (ih _ hlt _ rfl)
    rw [eq_xtime_shiftRight_xor a]
    split
    · exact addOne _ hdouble
    · simpa using hdouble

/-! ### Linearity in the left operand, from the loop of 40 R92 -/

theorem gfmulLoop_xor (n : Nat) (a a' b p p' : Byte) :
    gfmulLoop n (a ^^^ a') b (p ^^^ p') = gfmulLoop n a b p ^^^ gfmulLoop n a' b p' := by
  induction n generalizing a a' b p p' with
  | zero => rfl
  | succ n ih =>
    have hacc : p ^^^ p' ^^^ (a ^^^ a') = (p ^^^ a) ^^^ (p' ^^^ a') := by ac_rfl
    cases hb : b.getLsbD 0 <;> simp only [gfmulLoop, hb, if_true, if_false, xtime_xor, hacc, ih, Bool.false_eq_true]

theorem gfmulLoop_xtime (n : Nat) (a b p : Byte) : gfmulLoop n (xtime a) b (xtime p) = xtime (gfmulLoop n a b p) := by
  induction n generalizing a b p with
  | zero => rfl
  | succ n ih =>
    cases hb : b.getLsbD 0 <;> simp only [gfmulLoop, hb, if_true, if_false, ← xtime_xor, ih, Bool.false_eq_true]

theorem xor_gfmul (a a' b : Byte) : gfmul (a ^^^ a') b = gfmul a b ^^^ gfmul a' b := gfmulLoop_xor 8 a a' b 0 0

theorem xtime_gfmul (a b : Byte) : gfmul (xtime a) b = xtime (gfmul a b) := gfmulLoop_xtime 8 a b 0

@[simp] theorem zero_gfmul (b : Byte) : gfmul 0#8 b = 0#8 := by
  simpa using xor_gfmul 0 0 b

@[simp] theorem one_gfmul (b : Byte) : gfmul 1#8 b = b := by
  revert b
  decide +kernel

theorem two_gfmul (b : Byte) : gfmul 2#8 b = xtime b := by
  rw [show 2#8 = xtime 1#8 by decide, xtime_gfmul, one_gfmul]

/-! ### The laws, by induction on the left operand (40 R93) -/

theorem gfmul_xor (a b c : Byte) : gfmul a (b ^^^ c) = gfmul a b ^^^ gfmul a c := by
  induction a using byte_induction with
  | zero => simp
  | double a ih => simp only [xtime_gfmul, ih, xtime_xor]
  | addOne a ih =>
    simp only [xor_gfmul, one_gfmul, ih]
    ac_rfl

theorem gfmul_xtime (a b : Byte) : gfmul a (xtime b) = xtime (gfmul a b) := by
  induction a using byte_induction with
  | zero => simp only [zero_gfmul]; rfl
  | double a ih => simp only [xtime_gfmul, ih]
  | addOne a ih => simp only [xor_gfmul, one_gfmul, ih, xtime_xor]

@[simp] theorem gfmul_zero (a : Byte) : gfmul a 0#8 = 0#8 := by
  simpa using gfmul_xor a 0 0

@[simp] theorem gfmul_one (a : Byte) : gfmul a 1#8 = a := by
  induction a using byte_induction with
  | zero => simp
  | double a ih => rw [xtime_gfmul, ih]
  | addOne a ih => rw [xor_gfmul, one_gfmul, ih]

theorem gfmul_comm (a b : Byte) : gfmul a b = gfmul b a := by
  induction a using byte_induction with
  | zero => simp
  | double a ih => rw [xtime_gfmul, gfmul_xtime, ih]
  | addOne a ih => rw [xor_gfmul, gfmul_xor, ih, one_gfmul, gfmul_one]

theorem gfmul_two (a : Byte) : gfmul a 2#8 = xtime a := by rw [gfmul_comm, two_gfmul]

theorem gfmul_assoc (a b c : Byte) : gfmul (gfmul a b) c = gfmul a (gfmul b c) := by
  induction a using byte_induction with
  | zero => simp
  | double a ih => simp only [xtime_gfmul, ih]
  | addOne a ih => simp only [xor_gfmul, one_gfmul, ih]

theorem gfmul_left_comm (a b c : Byte) : gfmul a (gfmul b c) = gfmul b (gfmul a c) := by
  rw [← gfmul_assoc, gfmul_comm a b, gfmul_assoc]

/-! ### Inverses -/

/-- The affine map of 40 R94 undone. -/
def unaffine (b : Byte) : Byte := b.rotateLeft 1 ^^^ b.rotateLeft 3 ^^^ b.rotateLeft 6 ^^^ 0x05

theorem affine_unaffine (b : Byte) : affine (unaffine b) = b := by
  revert b
  decide +kernel

/-- The inverse of a byte, as the S-box table records it (40 R94). -/
def gfinv (a : Byte) : Byte := unaffine (sbox a)

theorem sbox_eq_affine_gfinv (a : Byte) : sbox a = affine (gfinv a) := (affine_unaffine (sbox a)).symm

theorem gfmul_gfinv (a : Byte) (h : a ≠ 0#8) : gfmul a (gfinv a) = 1#8 := by
  revert a
  decide +kernel

/-- A byte has at most one inverse. -/
theorem eq_of_gfmul_eq_one {a b b' : Byte} (h : gfmul a b = 1#8) (h' : gfmul a b' = 1#8) : b' = b :=
  calc b' = gfmul (gfmul a b) b' := by rw [h, one_gfmul]
    _ = gfmul b (gfmul a b') := by rw [gfmul_comm a b, gfmul_assoc]
    _ = b := by rw [h', gfmul_one]

/-- The inverse of a byte that has one is the table's. -/
theorem eq_gfinv_of_gfmul_eq_one {a b : Byte} (h : gfmul a b = 1#8) : b = gfinv a := by
  have ha : a ≠ 0#8 := by
    rintro rfl
    simp at h
  exact eq_of_gfmul_eq_one (gfmul_gfinv a ha) h

end Sys2Proof.Machine
end

section
/-! PROOF. The S-box, its inverse and the round constants (40 R94 to R96; log 7). -/
namespace Sys2Proof.Machine
open Sys2Proof.Claims

theorem invSbox_sbox (x : Byte) : invSbox (sbox x) = x := by
  revert x
  decide +kernel

theorem sbox_invSbox (y : Byte) : sbox (invSbox y) = y := by
  revert y
  decide +kernel

theorem sbox_ne_self (x : Byte) : sbox x ≠ x := by
  revert x
  decide +kernel

/-- Each round constant is twice the one before (40 R96). -/
theorem rc_succ {i : Nat} (h : 1 ≤ i) : rc (i + 1) = xtime (rc i) := by
  obtain ⟨k, rfl⟩ := Nat.exists_eq_add_of_le' h
  rfl

/-- The powers of 02 have period 51, since `02^51 = 01`. -/
theorem rcPower_add_period (k : Nat) : rcPower (k + 51) = rcPower k := by
  induction k with
  | zero => decide +kernel
  | succ k ih => exact congrArg xtime ih

theorem rc_add_period {i : Nat} (h : 1 ≤ i) : rc (i + 51) = rc i := by
  obtain ⟨k, rfl⟩ := Nat.exists_eq_add_of_le' h
  exact rcPower_add_period k

/-- Settles O36: S by the inverses its table records, the two tables against each other byte by byte, RC by doubling. -/
theorem sboxTablesAndRoundConstants : Obligations.SboxTablesAndRoundConstants := by
  refine ⟨by decide, fun x y h => ?_, fun x => ⟨invSbox_sbox x, sbox_invSbox x, sbox_ne_self x⟩, by decide, by decide,
    by decide, by decide, rfl, fun i h => ?_, fun i => rc_add_period, ?_⟩
  · rw [eq_gfinv_of_gfmul_eq_one h, sbox_eq_affine_gfinv]
  · exact (rc_succ h).trans (two_gfmul _).symm
  · decide +kernel

end Sys2Proof.Machine
end

section
/-! PROOF. The two column matrices: linear maps, so what they do to a column follows from the four unit columns
(40 R97, R98, R104). -/
namespace Sys2Proof.Machine
open Sys2Proof.Claims

/-- A column times a byte, lane by lane. -/
def scaleColumn (k : Byte) (c : Column) : Column := ⟨gfmul k c.a0, gfmul k c.a1, gfmul k c.a2, gfmul k c.a3⟩

/-- A map of columns that respects XOR and the product with a byte. -/
def ColumnLinear (f : Column → Column) : Prop :=
  (∀ c d, f (xorColumn c d) = xorColumn (f c) (f d)) ∧ ∀ k c, f (scaleColumn k c) = scaleColumn k (f c)

theorem ColumnLinear.comp {f g : Column → Column} (hf : ColumnLinear f) (hg : ColumnLinear g) : ColumnLinear (f ∘ g) := by
  obtain ⟨hfx, hfs⟩ := hf
  obtain ⟨hgx, hgs⟩ := hg
  exact ⟨fun c d => by simp only [Function.comp_apply, hgx, hfx], fun k c => by simp only [Function.comp_apply, hgs, hfs]⟩

/-- A column is the sum of its bytes times the unit columns. -/
theorem eq_sum_unitColumns (c : Column) :
    c = xorColumn (xorColumn (scaleColumn c.a0 ⟨1, 0, 0, 0⟩) (scaleColumn c.a1 ⟨0, 1, 0, 0⟩))
      (xorColumn (scaleColumn c.a2 ⟨0, 0, 1, 0⟩) (scaleColumn c.a3 ⟨0, 0, 0, 1⟩)) := by
  simp [xorColumn, scaleColumn]

/-- A linear map that fixes the unit columns fixes every column. -/
theorem ColumnLinear.eq_self {f : Column → Column} (hf : ColumnLinear f)
    (hunit : f ⟨1, 0, 0, 0⟩ = ⟨1, 0, 0, 0⟩ ∧ f ⟨0, 1, 0, 0⟩ = ⟨0, 1, 0, 0⟩ ∧ f ⟨0, 0, 1, 0⟩ = ⟨0, 0, 1, 0⟩ ∧
      f ⟨0, 0, 0, 1⟩ = ⟨0, 0, 0, 1⟩) (c : Column) : f c = c := by
  obtain ⟨hxor, hscale⟩ := hf
  obtain ⟨h0, h1, h2, h3⟩ := hunit
  rw [eq_sum_unitColumns c]
  simp only [hxor, hscale, h0, h1, h2, h3]

section
variable (m0 m1 m2 m3 : Byte)

theorem dotRow_xorColumn (c d : Column) :
    dotRow m0 m1 m2 m3 (xorColumn c d) = dotRow m0 m1 m2 m3 c ^^^ dotRow m0 m1 m2 m3 d := by
  simp only [dotRow, xorColumn, gfmul_xor]
  ac_rfl

theorem dotRow_scaleColumn (k : Byte) (c : Column) :
    dotRow m0 m1 m2 m3 (scaleColumn k c) = gfmul k (dotRow m0 m1 m2 m3 c) := by
  simp only [dotRow, scaleColumn, gfmul_xor, gfmul_left_comm k]

/-- A row times a column of equal bytes: the sum of the row's entries times the byte. -/
theorem dotRow_const (b : Byte) : dotRow m0 m1 m2 m3 ⟨b, b, b, b⟩ = gfmul (m0 ^^^ m1 ^^^ m2 ^^^ m3) b := by
  simp only [dotRow, xor_gfmul]

end

theorem columnLinear_mixcol : ColumnLinear mixcol :=
  ⟨fun c d => by simp only [mixcol, dotRow_xorColumn]; rfl, fun k c => by simp only [mixcol, dotRow_scaleColumn]; rfl⟩

theorem columnLinear_invmixcol : ColumnLinear invmixcol :=
  ⟨fun c d => by simp only [invmixcol, dotRow_xorColumn]; rfl, fun k c => by simp only [invmixcol, dotRow_scaleColumn]; rfl⟩

theorem mixcol_xorColumn (c d : Column) : mixcol (xorColumn c d) = xorColumn (mixcol c) (mixcol d) :=
  columnLinear_mixcol.1 c d

@[simp] theorem invmixcol_mixcol (c : Column) : invmixcol (mixcol c) = c :=
  (columnLinear_invmixcol.comp columnLinear_mixcol).eq_self (by decide +kernel) c

@[simp] theorem mixcol_invmixcol (c : Column) : mixcol (invmixcol c) = c :=
  (columnLinear_mixcol.comp columnLinear_invmixcol).eq_self (by decide +kernel) c

/-- The entries of each row of M sum to 01. -/
theorem mixcol_const (b : Byte) : mixcol ⟨b, b, b, b⟩ = ⟨b, b, b, b⟩ := by
  simp [mixcol, dotRow_const]

/-- The entries of each row of the inverse matrix sum to 01. -/
theorem invmixcol_const (b : Byte) : invmixcol ⟨b, b, b, b⟩ = ⟨b, b, b, b⟩ := by
  simp [invmixcol, dotRow_const]

/-- Settles O35: the laws of the product by induction on a byte, the matrices as linear maps. -/
theorem fieldAndMatrixLaws : Obligations.FieldAndMatrixLaws := by
  refine ⟨gfmul_comm, fun a => ⟨gfmul_one a, gfmul_zero a⟩, gfmul_two, gfmul_assoc, gfmul_xor,
    fun a ha => ⟨gfinv a, gfmul_gfinv a ha, fun b h => eq_gfinv_of_gfmul_eq_one h⟩, fun c0 c1 c2 c3 => ?_,
    fun _ _ _ _ => rfl, fun c d => ⟨rfl, mixcol_xorColumn c d⟩, fun c => ⟨invmixcol_mixcol c, mixcol_invmixcol c⟩⟩
  simp [mixcol, dotRow]

end Sys2Proof.Machine
end

section
/-! PROOF. The GF unit's commands: their encodings and their completions (40 R100 to R105). -/
namespace Sys2Proof.Machine
open Sys2Proof.Claims

/-! ### Encodings: by the number of operand fields (30 R74, R76) -/

/-- A word of an assigned OP decodes exactly when it is legal, to the command of its fields. -/
theorem decode_eq_ite {w : Word} {n : Nat} {i : Instr} (p : Prop) [Decidable p] (hused : usedFields (opField w) = some n)
    (hp : p ↔ rsvField w = 0 ∧ (n = 0 → faField w = 0) ∧ (n ≤ 1 → fbField w = 0))
    (hi : p → fieldsOf w = ⟨i.opcode, i.fa, i.fb, 0⟩) : decode w = if p then .ok i else .error .reserved := by
  have hwf : (fieldsOf w).wf = true ↔ p := (wf_iff (c := fieldsOf w) hused).trans hp.symm
  split
  · next hlegal => exact decodeFields_eq_ok_iff.mpr (hi hlegal)
  · next hlegal =>
    have hassigned : (fieldsOf w).opAssigned = true := by simp [Command.opAssigned, fieldsOf, hused]
    exact decodeFields_of_not_wf hassigned (Bool.not_eq_true _ ▸ mt hwf.mp hlegal)

/-- A word that is rejected for a reserved field completes with E_RSVD (30 R76). -/
theorem othersAreReserved_of_decode {op : Byte} {legal : Word → Prop}
    (h : ∀ w, opField w = op → ¬ legal w → decode w = .error .reserved) : OthersAreReserved op legal := by
  rintro s w rfl hw hn hp
  exact engineStep_of_decode_error hn hp (h w rfl hw)

/-- A command whose two fields are operands is legal exactly when RSV = 0. -/
theorem twoFieldCommand {op : Byte} {cmd : Byte → Byte → Instr} (hused : usedFields op = some 2)
    (hop : ∀ a b, (cmd a b).opcode = op) (hfa : ∀ a b, (cmd a b).fa = a) (hfb : ∀ a b, (cmd a b).fb = b) :
    TwoFieldCommand op cmd := by
  have hdecode (w : Word) (hw : opField w = op) :
      decode w = if rsvField w = 0 then .ok (cmd (faField w) (fbField w)) else .error .reserved := by
    refine decode_eq_ite _ (hw ▸ hused) (by simp) fun hrsv => ?_
    simp [fieldsOf, hop, hfa, hfb, hw, hrsv]
  exact ⟨fun a b => by rw [encode, hop, hfa, hfb], hdecode,
    othersAreReserved_of_decode fun w hw hp => (hdecode w hw).trans (if_neg hp)⟩

/-- A command whose FA is an operand is legal exactly when FB = 0 and RSV = 0. -/
theorem oneFieldCommand {op : Byte} {cmd : Byte → Instr} (hused : usedFields op = some 1)
    (hop : ∀ a, (cmd a).opcode = op) (hfa : ∀ a, (cmd a).fa = a) (hfb : ∀ a, (cmd a).fb = 0) : OneFieldCommand op cmd := by
  have hdecode (w : Word) (hw : opField w = op) :
      decode w = if rsvField w = 0 ∧ fbField w = 0 then .ok (cmd (faField w)) else .error .reserved := by
    refine decode_eq_ite _ (hw ▸ hused) (by simp) fun ⟨hrsv, hz⟩ => ?_
    simp [fieldsOf, hop, hfa, hfb, hw, hrsv, hz]
  exact ⟨fun a => by rw [encode, hop, hfa, hfb], hdecode,
    othersAreReserved_of_decode fun w hw hp => (hdecode w hw).trans (if_neg hp)⟩

/-- A command without operands has one word. -/
theorem bareCommand {op : Byte} {cmd : Instr} (hused : usedFields op = some 0) (hop : cmd.opcode = op) (hfa : cmd.fa = 0)
    (hfb : cmd.fb = 0) : BareCommand op cmd := by
  have hdecode (w : Word) (hw : opField w = op) :
      decode w = if w = encFields op 0 0 then .ok cmd else .error .reserved := by
    refine decode_eq_ite _ (hw ▸ hused) ?_ fun hword => ?_
    · simp [eq_encFields_iff, fieldsOf, hw, and_comm, and_assoc]
    · rw [hop, hfa, hfb, ← eq_encFields_iff, hword]
  exact ⟨by rw [encode, hop, hfa, hfb], hdecode,
    othersAreReserved_of_decode fun w hw hp => (hdecode w hw).trans (if_neg hp)⟩

/-! ### Completions -/

/-- Settles O22: the completion by its meaning, the encoding by its two operand fields, the corner cases by the field's laws. -/
theorem gfmulCompletes : Obligations.GfmulCompletes := by
  refine ⟨fun _ _ _ => rfl, twoFieldCommand rfl (fun _ _ => rfl) (fun _ _ => rfl) fun _ _ => rfl,
    fun a b => ⟨zero_gfmul b, gfmul_zero a, gfmul_one a, one_gfmul b, gfmul_comm a b⟩,
    fun a ha => ⟨gfinv a, gfmul_gfinv a ha⟩, ?_⟩
  decide +kernel

/-- Settles O23: the completions by their meanings, the encodings by their one operand field. -/
theorem sboxAndInvsboxComplete : Obligations.SboxAndInvsboxComplete :=
  ⟨fun _ _ => rfl, oneFieldCommand rfl (fun _ => rfl) (fun _ => rfl) fun _ => rfl,
    fun _ _ => rfl, oneFieldCommand rfl (fun _ => rfl) (fun _ => rfl) fun _ => rfl⟩

/-- The round constant stands in the top byte of its word (40 R96, R103). -/
theorem packWord_rconColumn (i : Nat) : packWord (rconColumn i) = (rc i).setWidth 32 <<< 24 := by
  simp [packWord, rconColumn]

/-- Every operand of RCON but 0 passes its check (40 R103). -/
theorem checkRcon_of_ne_zero {i : Byte} (h : i ≠ 0) : checkRcon i = .ok i.toNat :=
  if_neg fun h0 => h (BitVec.eq_of_toNat_eq h0)

/-- Settles O24: by the operand's check, then by the word the round constant is packed into. -/
theorem rconCompletes : Obligations.RconCompletes := by
  refine ⟨fun i s hi => ?_, fun _ => rfl, oneFieldCommand rfl (fun _ => rfl) (fun _ => rfl) fun _ => rfl⟩
  rw [exec, execRcon, checkRcon_of_ne_zero hi, ← packWord_rconColumn]
  rfl

/-- Settles O25: the completion by its meaning, the encoding by its lack of operands, the corner cases by linearity. -/
theorem mixcolCompletes : Obligations.MixcolCompletes :=
  ⟨fun _ => rfl, bareCommand rfl rfl rfl rfl, by decide, mixcol_const, mixcol_const 0, mixcol_xorColumn, by decide +kernel⟩

/-- Settles O26: the same for the inverse matrix, which undoes the other. -/
theorem invmixcolCompletes : Obligations.InvmixcolCompletes :=
  ⟨fun _ => rfl, bareCommand rfl rfl rfl rfl, by decide, invmixcol_const, invmixcol_mixcol, by decide +kernel,
    by decide +kernel⟩

end Sys2Proof.Machine
end

section
/-! PROOF. The key schedule's algorithms (41 R111 to R115): both walks make schedules that obey one recurrence, and a schedule
that obeys it is rebuilt from its top words. -/
namespace Sys2Proof.Machine
open Sys2Proof.Claims

/-! ### The recurrence -/

/-- From word `nk + start` on, the words of `w` obey the recurrence of 41 R113; `j` is the index of the older word. -/
def RecursFrom (nk start : Nat) (w : List Word) : Prop :=
  ∀ j, start ≤ j → nk + j < w.length →
    wordAt w (nk + j) = wordAt w j ^^^ schedF (wordAt w (nk + j - 1)) (nk + j) nk

/-- A list that obeys it everywhere gives each word by the two words the walks read (41 R113). -/
theorem RecursFrom.wordAt_eq {nk i : Nat} {w : List Word} (h : RecursFrom nk 0 w) (hi : nk ≤ i) (hlt : i < w.length) :
    wordAt w i = wordAt w (i - nk) ^^^ schedF (wordAt w (i - 1)) i nk := by
  obtain ⟨j, rfl⟩ := Nat.exists_eq_add_of_le hi
  rw [Nat.add_sub_cancel_left]
  exact h j (Nat.zero_le j) hlt

/-- The recurrence read backward (41 R114). -/
theorem RecursFrom.wordAt_sub_eq {nk i : Nat} {w : List Word} (h : RecursFrom nk 0 w) (hi : nk ≤ i) (hlt : i < w.length) :
    wordAt w (i - nk) = wordAt w i ^^^ schedF (wordAt w (i - 1)) i nk := by
  rw [h.wordAt_eq hi hlt, xor_cancel_right]

theorem wordAt_append_of_lt {v w : List Word} {i : Nat} (h : i < v.length) : wordAt (v ++ w) i = wordAt v i :=
  List.getD_append v w 0 i h

theorem wordAt_set_self {w : List Word} {k : Nat} (v : Word) (h : k < w.length) : wordAt (w.set k v) k = v := by
  simp [wordAt, h]

theorem wordAt_set_of_ne {k i : Nat} (w : List Word) (v : Word) (h : k ≠ i) : wordAt (w.set k v) i = wordAt w i := by
  simp [wordAt, h]

/-- A schedule is its words. -/
theorem eq_of_wordAt_eq {v w : List Word} (hlen : v.length = w.length) (h : ∀ i, wordAt v i = wordAt w i) : v = w :=
  List.ext_getElem hlen fun i hv hw => by simpa [wordAt, hv, hw] using h i

/-! ### Forward expansion (41 R113) -/

/-- The word the expander appends is the one the recurrence asks for. -/
theorem RecursFrom.append_nextWord {nk : Nat} {w : List Word} (h : RecursFrom nk 0 w) (h1 : 1 ≤ nk) (hlen : nk ≤ w.length) :
    RecursFrom nk 0 (w ++ [nextWord nk w]) := by
  intro j _ hj
  rw [List.length_append, List.length_singleton] at hj
  rw [wordAt_append_of_lt (i := j) (by omega), wordAt_append_of_lt (i := nk + j - 1) (by omega)]
  obtain hlt | heq : nk + j < w.length ∨ nk + j = w.length := by omega
  · rw [wordAt_append_of_lt hlt, h j (Nat.zero_le j) hlt]
  · have hnew : wordAt (w ++ [nextWord nk w]) w.length = nextWord nk w := by simp [wordAt]
    rw [heq, hnew, nextWord, show w.length - nk = j by omega]

theorem recursFrom_expandLoop {nk : Nat} (h1 : 1 ≤ nk) (n : Nat) {w : List Word} (h : RecursFrom nk 0 w)
    (hlen : nk ≤ w.length) : RecursFrom nk 0 (expandLoop nk n w) := by
  induction n generalizing w with
  | zero => exact h
  | succ n ih => exact ih (h.append_nextWord h1 hlen) (by simp; omega)

/-- A key on its own has no word to which the recurrence applies, so every expansion of it obeys the recurrence. -/
theorem recursFrom_expandLoop_key {key : List Word} (h1 : 1 ≤ key.length) (n : Nat) :
    RecursFrom key.length 0 (expandLoop key.length n key) :=
  recursFrom_expandLoop h1 n (fun _ _ hj => by omega) le_rfl

theorem recursFrom_expand {key : List Word} (h1 : 1 ≤ key.length) (rounds : Nat) :
    RecursFrom key.length 0 (expand key rounds) :=
  recursFrom_expandLoop_key h1 _

/-- The first words of an expansion are a shorter run of the same loop. -/
theorem expand_take {key : List Word} {rounds m : Nat} (hkey : key.length ≤ m) (hm : m ≤ 4 * (rounds + 1)) :
    (expand key rounds).take m = expandLoop key.length (m - key.length) key := by
  have hsplit : 4 * (rounds + 1) - key.length = (m - key.length) + (4 * (rounds + 1) - m) := by omega
  rw [expand, hsplit, expandLoop_add]
  obtain ⟨more, hmore⟩ := expandLoop_prefix key.length (4 * (rounds + 1) - m) (expandLoop key.length (m - key.length) key)
  rw [hmore, List.take_left']
  rw [expandLoop_length]; omega

theorem expand_take_key {key : List Word} {rounds : Nat} (h : key.length ≤ 4 * (rounds + 1)) :
    (expand key rounds).take key.length = key := by
  rw [expand_take le_rfl h, Nat.sub_self, expandLoop]

/-- The first case of the schedule function, byte by byte (41 R112). -/
theorem schedF_of_mod_eq_zero {i nk : Nat} (p : Word) (h : i % nk = 0) : schedF p i nk = packWord
    ⟨sbox (bytesOf p).a1 ^^^ rc (i / nk), sbox (bytesOf p).a2, sbox (bytesOf p).a3, sbox (bytesOf p).a0⟩ := by
  simp [schedF, h, xorColumn, subWord, rotWord, rconColumn]

/-- Settles O38: the cases of f by its definition, the recurrence by the loop that appends one word at a time. -/
theorem expandRecurrence : Obligations.ExpandRecurrence := by
  refine ⟨fun p i nk => ⟨schedF_of_mod_eq_zero p, fun h0 h6 h4 => ?_, fun h0 h => ?_⟩, fun k rounds hk hr => ?_⟩
  · rw [schedF, if_neg h0, if_pos ⟨h6, h4⟩, subWord]
  · rw [schedF, if_neg h0, if_neg h]
  · have hlen := expand_length k rounds (by omega)
    exact ⟨hlen, expand_take_key (by omega), fun i hi hlt =>
      (recursFrom_expand (by omega) rounds).wordAt_eq hi (by rw [hlen]; exact hlt)⟩

/-! ### Backward derivation (41 R114) -/

/-- The descending walk with `k` words still to derive leaves the words from `k` on. -/
theorem deriveLoop_wordAt_of_le (nk : Nat) {k i : Nat} (w : List Word) (h : k ≤ i) :
    wordAt (deriveLoop nk k w) i = wordAt w i := by
  induction k generalizing w with
  | zero => rfl
  | succ k ih => rw [deriveLoop, ih _ (by omega), wordAt_set_of_ne _ _ (by omega)]

theorem recursFrom_deriveLoop {nk k : Nat} (h2 : 2 ≤ nk) {w : List Word} (hlen : nk + k ≤ w.length)
    (h : RecursFrom nk k w) : RecursFrom nk 0 (deriveLoop nk k w) := by
  induction k generalizing w with
  | zero => exact h
  | succ k ih =>
    refine ih (by rw [List.length_set]; omega) fun j hj hlt => ?_
    rw [List.length_set] at hlt
    rw [wordAt_set_of_ne _ _ (by omega), wordAt_set_of_ne (i := nk + j - 1) _ _ (by omega)]
    obtain rfl | hk : j = k ∨ k + 1 ≤ j := by omega
    · rw [wordAt_set_self _ (by omega), xor_cancel_right]
    · rw [wordAt_set_of_ne (i := j) _ _ (by omega), h j hk hlt]

/-- The walk leaves the segment it starts from on top. -/
theorem derive_drop (seg : List Word) (off : Nat) : (derive seg off).drop off = seg := by
  refine eq_of_wordAt_eq (by simp [derive]) fun i => ?_
  calc wordAt ((derive seg off).drop off) i
      = wordAt (derive seg off) (off + i) := by simp [wordAt]
    _ = wordAt (List.replicate off 0 ++ seg) (off + i) := deriveLoop_wordAt_of_le _ _ (Nat.le_add_right off i)
    _ = wordAt seg i := by simp [wordAt, List.getElem?_append_right]

/-- Settles O39: the walk writes each word so that the recurrence holds from it on. -/
theorem deriveRecurrence : Obligations.DeriveRecurrence := by
  intro seg off hseg
  refine ⟨derive_length seg off, derive_drop seg off, fun i hi hlt => ?_⟩
  have hrec : RecursFrom seg.length 0 (derive seg off) :=
    recursFrom_deriveLoop (by omega) (by simp; omega) fun j hj hjlt => by simp at hjlt; omega
  exact hrec.wordAt_sub_eq hi (by rw [derive_length]; exact hlt)

/-! ### Derivation inverts expansion (41 R115) -/

/-- The walk rebuilds any list that obeys the recurrence from the words of it that are already in place. -/
theorem deriveLoop_eq {nk k : Nat} (h2 : 2 ≤ nk) {v w : List Word} (hv : RecursFrom nk 0 v) (hlen : w.length = v.length)
    (hk : nk + k ≤ v.length) (htop : ∀ i, k ≤ i → wordAt w i = wordAt v i) : deriveLoop nk k w = v := by
  induction k generalizing w with
  | zero => exact eq_of_wordAt_eq hlen fun i => htop i (Nat.zero_le i)
  | succ k ih =>
    refine ih (by rw [List.length_set, hlen]) (by omega) fun i hi => ?_
    obtain rfl | hne : i = k ∨ k + 1 ≤ i := by omega
    · rw [wordAt_set_self _ (by omega), htop _ (by omega), htop _ (by omega), hv i (Nat.zero_le i) (by omega),
        xor_cancel_right]
    · rw [wordAt_set_of_ne _ _ (by omega), htop i hne]

/-- A list that obeys the recurrence is derived from its top words. -/
theorem derive_drop_eq {v : List Word} {off : Nat} (h2 : off + 2 ≤ v.length) (hv : RecursFrom (v.length - off) 0 v) :
    derive (v.drop off) off = v := by
  rw [derive, List.length_drop]
  refine deriveLoop_eq (by omega) hv (by simp; omega) (by omega) fun i hi => ?_
  obtain ⟨j, rfl⟩ := Nat.exists_eq_add_of_le hi
  simp [wordAt, List.getElem?_append_right]

/-- Settles O40: the first words of an expansion are an expansion, so they obey the recurrence, and their top words give them
back. -/
theorem deriveInvertsExpand : Obligations.DeriveInvertsExpand := by
  refine ⟨fun k rounds more hk hr => expand_take (by omega) (by omega), fun k rounds off hk hoff => ?_⟩
  have htake := expand_take (key := k) (rounds := rounds) (Nat.le_add_left _ off) hoff
  have hderive : derive (((expand k rounds).drop off).take k.length) off = (expand k rounds).take (off + k.length) := by
    rw [List.take_drop, htake]
    have hlen : (expandLoop k.length (off + k.length - k.length) k).length = off + k.length := by
      rw [expandLoop_length]; omega
    refine derive_drop_eq (by omega) ?_
    rw [hlen, Nat.add_sub_cancel_left]
    exact recursFrom_expandLoop_key (by omega) _
  refine ⟨?_, hderive⟩
  rw [hderive, List.take_take, min_eq_left (Nat.le_add_left _ off), expand_take_key (by omega)]

end Sys2Proof.Machine
end

section
/-! PROOF. The commands of the key schedule: their operand checks, their completions and their frame (41 R116, R117). -/
namespace Sys2Proof.Machine
open Sys2Proof.Claims

/-! ### Operand checks -/

/-- The legal key lengths are those of the key sizes (00 R6). -/
theorem keyLength_iff {klen : Byte} : KeyLength klen ↔ ∃ k : KeySize, klen = k.bytes := by
  constructor
  · rintro (rfl | rfl | rfl)
    exacts [⟨.k128, rfl⟩, ⟨.k192, rfl⟩, ⟨.k256, rfl⟩]
  · rintro ⟨k, rfl⟩
    cases k <;> decide

@[simp] theorem sizeOfKey_bytes (k : KeySize) : sizeOfKey k.bytes = some k := by cases k <;> rfl

@[simp] theorem nkOf_bytes (k : KeySize) : nkOf k.bytes = k.nk := by cases k <;> rfl

theorem sizeOfKey_eq_none {klen : Byte} (h : ¬ KeyLength klen) : sizeOfKey klen = none := by
  unfold sizeOfKey
  split
  next h16 => exact absurd (.inl (BitVec.eq_of_toNat_eq h16)) h
  next h24 => exact absurd (.inr (.inl (BitVec.eq_of_toNat_eq h24))) h
  next h32 => exact absurd (.inr (.inr (BitVec.eq_of_toNat_eq h32))) h
  next => rfl

/-- The segment lengths DERIVE takes are the numbers of words of the key sizes (90 C2). -/
theorem exists_sizeOfSegment {nk : Byte} (h : nk = 4 ∨ nk = 6 ∨ nk = 8) :
    ∃ k : KeySize, sizeOfSegment nk = some k ∧ k.nk = nk.toNat := by
  rcases h with rfl | rfl | rfl
  exacts [⟨.k128, rfl, rfl⟩, ⟨.k192, rfl, rfl⟩, ⟨.k256, rfl, rfl⟩]

theorem sizeOfSegment_eq_none {nk : Byte} (h : ¬ (nk = 4 ∨ nk = 6 ∨ nk = 8)) : sizeOfSegment nk = none := by
  unfold sizeOfSegment
  split
  next h4 => exact absurd (.inl (BitVec.eq_of_toNat_eq h4)) h
  next h6 => exact absurd (.inr (.inl (BitVec.eq_of_toNat_eq h6))) h
  next h8 => exact absurd (.inr (.inr (BitVec.eq_of_toNat_eq h8))) h
  next => rfl

theorem checkExpand_bytes (k : KeySize) (rounds : Byte) :
    checkExpand k.bytes rounds = if rounds.toNat < 1 ∨ 14 < rounds.toNat then .error .rounds else .ok k := by
  rw [checkExpand, sizeOfKey_bytes, Config.maxRounds]

theorem checkExpand_of_not_keyLength {klen : Byte} (h : ¬ KeyLength klen) (rounds : Byte) :
    checkExpand klen rounds = .error .keylen := by
  rw [checkExpand, sizeOfKey_eq_none h]

theorem checkDerive_of_size {nk : Byte} {k : KeySize} (h : sizeOfSegment nk = some k) (off : Byte) :
    checkDerive nk off = if 60 < off.toNat + k.nk then .error .offset else .ok k := by
  rw [checkDerive, h, Config.schedWords]

theorem checkDerive_of_not_segment {nk : Byte} (h : ¬ (nk = 4 ∨ nk = 6 ∨ nk = 8)) (off : Byte) :
    checkDerive nk off = .error .seglen := by
  rw [checkDerive, sizeOfSegment_eq_none h]

/-! ### Completions, by the outcome of the check -/

theorem exec_expand_of_error {klen rounds : Byte} {e : ErrorCode} (h : checkExpand klen rounds = .error e) (s : State) :
    exec (.expand klen rounds) s = .next (s.finish 0x10 e) := by
  rw [exec, execExpand, h]; rfl

theorem exec_expand_of_ok {klen rounds : Byte} {k : KeySize} (h : checkExpand klen rounds = .ok k) (s : State) :
    exec (.expand klen rounds) s = .next ((s.expanded k rounds.toNat).finish 0x10 .none) := by
  rw [exec, execExpand, h]; rfl

theorem exec_derive_of_error {nk off : Byte} {e : ErrorCode} (h : checkDerive nk off = .error e) (s : State) :
    exec (.derive nk off) s = .next (s.finish 0x11 e) := by
  rw [exec, execDerive, h]; rfl

theorem exec_derive_of_ok {nk off : Byte} {k : KeySize} (h : checkDerive nk off = .ok k) (s : State) :
    exec (.derive nk off) s = .next ((s.derived k off.toNat).finish 0x11 .none) := by
  rw [exec, execDerive, h]; rfl

theorem expand_of_length_eight {key : List Word} (h : key.length = 8) : expand key 1 = key := by
  rw [expand, h]; rfl

/-- Settles O27: by the operand checks, which name the key size, and the length of an expansion. -/
theorem expandCompletes : Obligations.ExpandCompletes := by
  refine ⟨fun klen rounds s hk h1 h14 => ?_, fun klen rounds s hk => ?_, fun klen rounds s hk hr => ?_,
    twoFieldCommand rfl (fun _ _ => rfl) (fun _ _ => rfl) fun _ _ => rfl, fun _ => expand_of_length_eight⟩
  · obtain ⟨k, rfl⟩ := keyLength_iff.mp hk
    have hcheck : checkExpand k.bytes rounds = .ok k := (checkExpand_bytes k rounds).trans (if_neg (by omega))
    have hkey : keyOf s k.bytes = keyWords s k := by rw [keyOf, nkOf_bytes, keyWords]
    have hlen : (expand (keyWords s k) rounds.toNat).length = 4 * (rounds.toNat + 1) :=
      expand_length _ _ (by rw [keyWords_length]; have := nk_cases k; omega)
    rw [exec_expand_of_ok hcheck, hkey, ← hlen]
    exact ⟨rfl, rfl⟩
  · exact exec_expand_of_error (checkExpand_of_not_keyLength hk rounds) s
  · obtain ⟨k, rfl⟩ := keyLength_iff.mp hk
    exact exec_expand_of_error ((checkExpand_bytes k rounds).trans (if_pos hr)) s

/-- Settles O28: by the operand checks, which name the segment's size, and the length of a derivation. -/
theorem deriveCompletes : Obligations.DeriveCompletes := by
  refine ⟨fun nk off s hnk hoff => ?_, fun nk off s hnk => ?_, fun nk off s hnk hoff => ?_,
    twoFieldCommand rfl (fun _ _ => rfl) (fun _ _ => rfl) fun _ _ => rfl, fun _ => rfl⟩
  · obtain ⟨k, hsize, hk⟩ := exists_sizeOfSegment hnk
    have hcheck : checkDerive nk off = .ok k := (checkDerive_of_size hsize off).trans (if_neg (by omega))
    have hseg : segOf s nk = segWords s k := by rw [segOf, ← hk, segWords]
    have hlen : (derive (segWords s k) off.toNat).length = off.toNat + nk.toNat := by
      rw [derive_length, segWords_length, hk]
    have hkout : ((derive (segWords s k) off.toNat).take nk.toNat).length = nk.toNat := by
      rw [List.length_take, hlen]; omega
    rw [exec_derive_of_ok hcheck, hseg, State.derived, hk]
    refine ⟨?_, hlen⟩
    rw [State.loadSched, State.setKout, hlen, hkout]
    rfl
  · exact exec_derive_of_error (checkDerive_of_not_segment hnk off) s
  · obtain ⟨k, hsize, hk⟩ := exists_sizeOfSegment hnk
    exact exec_derive_of_error ((checkDerive_of_size hsize off).trans (if_pos (by omega))) s

/-! ### The frame -/

/-- What a key command does: the completion update, after the writes of an EXPAND or of a DERIVE that succeeds. -/
theorem exec_keyCommand {i : Instr} {s t : State} (hi : keyCommand i = true) (h : exec i s = .next t) :
    (∃ e, t = s.finish i.opcode e) ∨
      (∃ w, t = (s.loadSched w).finish i.opcode .none) ∨
        ((∀ k n, i ≠ .expand k n) ∧ ∃ w w', t = ((s.loadSched w).setKout w').finish i.opcode .none) := by
  cases i with
  | expand klen rounds =>
    cases hc : checkExpand klen rounds with
    | error e => rw [exec_expand_of_error hc] at h; cases h; exact .inl ⟨e, rfl⟩
    | ok k => rw [exec_expand_of_ok hc] at h; cases h; exact .inr (.inl ⟨_, rfl⟩)
  | derive nk off =>
    cases hc : checkDerive nk off with
    | error e => rw [exec_derive_of_error hc] at h; cases h; exact .inl ⟨e, rfl⟩
    | ok k => rw [exec_derive_of_ok hc] at h; cases h; exact .inr (.inr ⟨nofun, _, _, rfl⟩)
  | _ => cases hi

/-- Of the registers, loading a schedule changes SCHED and INFO alone. -/
theorem view_loadSched (s : State) (w : List Word) {r : Reg} (hinfo : r ≠ .info) (hsched : ¬ IsSched r) :
    view (s.loadSched w) r = view s r := by
  cases r with
  | info => exact absurd rfl hinfo
  | sched i => exact absurd ⟨i, rfl⟩ hsched
  | _ => rfl

/-- Of the registers, writing the derived key changes KOUT and INFO alone. -/
theorem view_setKout (s : State) (w : List Word) {r : Reg} (hinfo : r ≠ .info) (hkout : ¬ IsKout r) :
    view (s.setKout w) r = view s r := by
  cases r with
  | info => exact absurd rfl hinfo
  | kout j => exact absurd ⟨j, rfl⟩ hkout
  | _ => rfl

/-- Settles O33: the completion update touches STATUS alone, the writes before it SCHED, KOUT and INFO. -/
theorem keyCommandFrame : Obligations.KeyCommandFrame := by
  intro i s t hi h
  obtain ⟨e, rfl⟩ | ⟨w, rfl⟩ | ⟨hderive, w, w', rfl⟩ := exec_keyCommand hi h
  · exact ⟨fun r hst _ _ _ => view_finish s _ _ r hst, fun _ => ⟨rfl, fun _ => rfl⟩, rfl, rfl, rfl, rfl, rfl, rfl, rfl, rfl, rfl⟩
  · refine ⟨fun r hst hinfo hsched _ => ?_, fun _ => ⟨rfl, fun _ => rfl⟩, rfl, rfl, rfl, rfl, rfl, rfl, rfl, rfl, rfl⟩
    rw [view_finish _ _ _ r hst, view_loadSched s w hinfo hsched]
  · refine ⟨fun r hst hinfo hsched hkout => ?_, fun ⟨k, n, hexpand⟩ => absurd hexpand (hderive k n), rfl, rfl, rfl, rfl, rfl,
      rfl, rfl, rfl, rfl⟩
    rw [view_finish _ _ _ r hst, view_setKout _ w' hinfo hkout, view_loadSched s w hinfo hsched]

end Sys2Proof.Machine
end

section
/-! PROOF. The transforms of a round by the elements of a block, and their inverses (42 R125 to R129). -/
namespace Sys2Proof.Machine
open Sys2Proof.Claims

/-! ### The elements of a block after each transform -/

section
variable (s : Block) (r c : Fin 4)

@[simp] theorem blockAt_blockOf (f : Fin 4 → Fin 4 → Byte) : blockAt (blockOf f) r c = f r c := by
  match r, c with
  | 0, 0 | 0, 1 | 0, 2 | 0, 3 | 1, 0 | 1, 1 | 1, 2 | 1, 3 | 2, 0 | 2, 1 | 2, 2 | 2, 3 | 3, 0 | 3, 1 | 3, 2 | 3, 3 => rfl

@[simp] theorem blockAt_subBytes : blockAt (subBytes s) r c = sbox (blockAt s r c) := blockAt_blockOf _ _ _

@[simp] theorem blockAt_invSubBytes : blockAt (invSubBytes s) r c = invSbox (blockAt s r c) := blockAt_blockOf _ _ _

@[simp] theorem blockAt_shiftRows : blockAt (shiftRows s) r c = blockAt s r (c + r) := blockAt_blockOf _ _ _

@[simp] theorem blockAt_invShiftRows : blockAt (invShiftRows s) r c = blockAt s r (c - r) := blockAt_blockOf _ _ _

theorem colOf_mapColumns (f : Column → Column) : colOf (mapColumns f s) c = f (colOf s c) := by
  match c with
  | 0 | 1 | 2 | 3 => rfl

theorem rowOf_xorColumn (x y : Column) : rowOf (xorColumn x y) r = rowOf x r ^^^ rowOf y r := by
  match r with
  | 0 | 1 | 2 | 3 => rfl

theorem blockAt_xorBlock (x y : Block) : blockAt (xorBlock x y) r c = blockAt x r c ^^^ blockAt y r c := by
  have hcol : colOf (xorBlock x y) c = xorColumn (colOf x c) (colOf y c) := by
    match c with
    | 0 | 1 | 2 | 3 => rfl
  rw [blockAt, hcol, rowOf_xorColumn]
  rfl

theorem colOf_roundKey (w : List Word) (n : Nat) : colOf (roundKey w n) c = bytesOf (wordAt w (4 * n + c.val)) := by
  match c with
  | 0 | 1 | 2 | 3 => rfl

theorem colOf_bankToBlock (x : Vector Word 4) : colOf (bankToBlock x) c = bytesOf x[c] := by
  match c with
  | 0 | 1 | 2 | 3 => rfl

end

/-! ### Each transform is undone by its inverse -/

@[simp] theorem invSubBytes_subBytes (s : Block) : invSubBytes (subBytes s) = s :=
  block_ext fun r c => by rw [blockAt_invSubBytes, blockAt_subBytes, invSbox_sbox]

@[simp] theorem invShiftRows_shiftRows (s : Block) : invShiftRows (shiftRows s) = s :=
  block_ext fun r c => by rw [blockAt_invShiftRows, blockAt_shiftRows, sub_add_cancel]

@[simp] theorem invMixColumns_mixColumns (s : Block) : invMixColumns (mixColumns s) = s := by
  simp [invMixColumns, mixColumns, mapColumns]

@[simp] theorem addRoundKey_addRoundKey (w : List Word) (r : Nat) (s : Block) :
    addRoundKey w r (addRoundKey w r s) = s :=
  block_ext fun i c => by simp only [addRoundKey, blockAt_xorBlock, xor_cancel_right]

/-! ### The bytes of a block in source order -/

/-- Byte `j` of a word, the first in bits 31:24 (20 R56). -/
theorem rowOf_bytesOf (v : Word) (j : Fin 4) : rowOf (bytesOf v) j = v.extractLsb' (24 - 8 * j.val) 8 := by
  match j with
  | 0 | 1 | 2 | 3 => rfl

/-- Byte `4c + j` is row `j` of column `c` (00 R8). -/
theorem byteOf_four_mul_add (b : Block) (c j : Fin 4) : byteOf b (4 * c.val + j.val) = blockAt b j c := by
  have hrow : Fin.ofNat 4 ((4 * c.val + j.val) % 4) = j := Fin.ext (by simp only [Fin.ofNat]; omega)
  have hcol : Fin.ofNat 4 ((4 * c.val + j.val) / 4) = c := Fin.ext (by simp only [Fin.ofNat]; omega)
  rw [byteOf, hrow, hcol]

theorem byteOf_shiftRows (s : Block) (r c : Fin 4) :
    byteOf (shiftRows s) (4 * c.val + r.val) = byteOf s (4 * (c + r).val + r.val) := by
  simp only [byteOf_four_mul_add, blockAt_shiftRows]

theorem byteOf_invShiftRows (s : Block) (r c : Fin 4) :
    byteOf (invShiftRows s) (4 * (c + r).val + r.val) = byteOf s (4 * c.val + r.val) := by
  simp only [byteOf_four_mul_add, blockAt_invShiftRows, add_sub_cancel_right]

theorem byteOf_roundKey (w : List Word) (r : Nat) (c j : Fin 4) :
    byteOf (roundKey w r) (4 * c.val + j.val) = (wordAt w (4 * r + c.val)).extractLsb' (24 - 8 * j.val) 8 := by
  rw [byteOf_four_mul_add, blockAt, colOf_roundKey, rowOf_bytesOf]

theorem byteOf_bankToBlock (x : Vector Word 4) (c j : Fin 4) :
    byteOf (bankToBlock x) (4 * c.val + j.val) = x[c].extractLsb' (24 - 8 * j.val) 8 := by
  rw [byteOf_four_mul_add, blockAt, colOf_bankToBlock, rowOf_bytesOf]

theorem extractLsb'_blockToBank (b : Block) (c j : Fin 4) :
    (blockToBank b)[c].extractLsb' (24 - 8 * j.val) 8 = byteOf b (4 * c.val + j.val) := by
  rw [← byteOf_bankToBlock, bankToBlock_blockToBank]

/-- Settles O37: the transforms by the elements of a block, the bytes of a block by row and column. -/
theorem roundTransforms : Obligations.RoundTransforms := by
  refine ⟨fun s k _ => ⟨blockAt_subBytes s _ _, blockAt_invSubBytes s _ _⟩,
    fun s c => ⟨colOf_mapColumns s c mixcol, colOf_mapColumns s c invmixcol⟩, fun x y k _ => blockAt_xorBlock _ _ x y,
    fun _ _ _ => rfl, fun w r j c _ hj => byteOf_roundKey w r c ⟨j, hj⟩, fun _ => ⟨rfl, rfl⟩,
    fun b x c j hj => ⟨extractLsb'_blockToBank b c ⟨j, hj⟩, byteOf_bankToBlock x c ⟨j, hj⟩⟩,
    fun s r c hr hc => ⟨byteOf_shiftRows s ⟨r, hr⟩ ⟨c, hc⟩, byteOf_invShiftRows s ⟨r, hr⟩ ⟨c, hc⟩⟩, ?_, ?_⟩
  · decide
  · decide

end Sys2Proof.Machine
end

section
/-! PROOF. The cipher and its inverse round by round: the state each round hands on, the snapshots as a function of the
round, and the inverse cipher walking the states of the cipher back (42 R130 to R134). -/
namespace Sys2Proof.Machine
open Sys2Proof.Claims

/-! ### The cipher (42 R130) -/

/-- The state the cipher hands on from round `r`, for `r` below the number of rounds. -/
def encState (w : List Word) (p : Block) : Nat → Block
  | 0 => addRoundKey w 0 p
  | r + 1 => addRoundKey w (r + 1) (mixColumns (shiftRows (subBytes (encState w p r))))

/-- The snapshot of round `r` of the cipher. -/
def encEntry (w : List Word) (nr : Nat) (p : Block) (r : Nat) : Snapshot :=
  if r = 0 then encInitial w p
  else if r < nr then encInterior w r (encState w p (r - 1))
  else encFinal w nr (encState w p (r - 1))

section
variable (w : List Word) {nr r : Nat} (p : Block)

theorem encEntry_zero : encEntry w nr p 0 = encInitial w p := if_pos rfl

theorem encEntry_of_lt (h1 : 1 ≤ r) (h : r < nr) : encEntry w nr p r = encInterior w r (encState w p (r - 1)) := by
  rw [encEntry, if_neg (by omega), if_pos h]

theorem encEntry_self (h1 : 1 ≤ nr) : encEntry w nr p nr = encFinal w nr (encState w p (nr - 1)) := by
  rw [encEntry, if_neg (by omega), if_neg (lt_irrefl nr)]

theorem encEntry_keyed (h : r < nr) : (encEntry w nr p r).keyed = encState w p r := by
  cases r with
  | zero => rfl
  | succ r => rw [encEntry_of_lt w p (Nat.le_add_left 1 r) h]; rfl

theorem encEntry_round (h1 : 1 ≤ nr) (h : r ≤ nr) : (encEntry w nr p r).round = r := by
  obtain rfl | h0 := Nat.eq_zero_or_pos r
  · rfl
  · obtain hlt | rfl := h.lt_or_eq
    · rw [encEntry_of_lt w p h0 hlt]; rfl
    · rw [encEntry_self w p h1]; rfl

/-- The interior rounds from round `r + 1` on. -/
theorem encRounds_eq (count r : Nat) : encRounds w count (r + 1) (encState w p r) =
    ((List.range' (r + 1) count).map fun i => encInterior w i (encState w p (i - 1)), encState w p (r + count)) := by
  induction count generalizing r with
  | zero => rfl
  | succ count ih =>
    have hkeyed : (encInterior w (r + 1) (encState w p r)).keyed = encState w p (r + 1) := rfl
    simp only [encRounds, hkeyed, ih, List.range'_succ, List.map_cons, Nat.add_sub_cancel, Nat.add_right_comm r 1 count]
    rfl

/-- The interior rounds of a run, and the state they leave. -/
theorem encRounds_encInitial (m : Nat) : encRounds w m 1 (encInitial w p).keyed =
    ((List.range' 1 m).map (encEntry w (m + 1) p), encState w p m) := by
  have hrounds : encRounds w m 1 (encInitial w p).keyed = _ := encRounds_eq w p m 0
  rw [zero_add, zero_add] at hrounds
  refine hrounds.trans (Prod.ext (List.map_congr_left fun i hi => ?_) rfl)
  rw [List.mem_range'_1] at hi
  exact (encEntry_of_lt w p hi.1 (by omega)).symm

theorem encryptWith_trace (h : 1 ≤ nr) : (encryptWith w nr p).trace = (List.range (nr + 1)).map (encEntry w nr p) := by
  obtain ⟨m, rfl⟩ := Nat.exists_eq_add_of_le' h
  rw [List.range_eq_range', List.range'_succ, List.range'_1_concat, List.map_cons, List.map_append, zero_add,
    List.map_singleton, Nat.add_comm 1 m, encEntry_self w p h, encEntry_zero]
  simp only [encryptWith, Nat.add_sub_cancel, encRounds_encInitial]

theorem encryptWith_trace_getElem? (h : 1 ≤ nr) (hr : r ≤ nr) :
    (encryptWith w nr p).trace[r]? = some (encEntry w nr p r) := by
  simp [encryptWith_trace w p h, Nat.lt_succ_of_le hr]

theorem encryptWith_result (h : 1 ≤ nr) : (encryptWith w nr p).result = (encEntry w nr p nr).keyed := by
  obtain ⟨m, rfl⟩ := Nat.exists_eq_add_of_le' h
  rw [encEntry_self w p h]
  simp only [encryptWith, Nat.add_sub_cancel, encRounds_encInitial]

end

/-! ### The inverse cipher (42 R131) -/

/-- The state the inverse cipher hands on after entry `e`, which is round `nr - e`, for `e` below the number of rounds. -/
def decState (w : List Word) (nr : Nat) (c : Block) : Nat → Block
  | 0 => decFinalOut w nr c
  | e + 1 => decInteriorOut w (nr - (e + 1)) (decState w nr c e)

/-- The snapshot of entry `e` of the inverse cipher. -/
def decEntry (w : List Word) (nr : Nat) (c : Block) (e : Nat) : Snapshot :=
  if e = 0 then decFinal w nr c
  else if e < nr then decInterior w (nr - e) (decState w nr c (e - 1))
  else decInitial w (decState w nr c (e - 1))

section
variable (w : List Word) {nr e : Nat} (c : Block)

theorem decEntry_zero : decEntry w nr c 0 = decFinal w nr c := if_pos rfl

theorem decEntry_of_lt (h1 : 1 ≤ e) (h : e < nr) :
    decEntry w nr c e = decInterior w (nr - e) (decState w nr c (e - 1)) := by
  rw [decEntry, if_neg (by omega), if_pos h]

theorem decEntry_self (h1 : 1 ≤ nr) : decEntry w nr c nr = decInitial w (decState w nr c (nr - 1)) := by
  rw [decEntry, if_neg (by omega), if_neg (lt_irrefl nr)]

theorem decEntry_sub (h : e < nr) : (decEntry w nr c e).sub = some (decState w nr c e) := by
  cases e with
  | zero => rfl
  | succ e => rw [decEntry_of_lt w c (Nat.le_add_left 1 e) h]; rfl

theorem decEntry_round (h1 : 1 ≤ nr) (h : e ≤ nr) : (decEntry w nr c e).round = nr - e := by
  obtain rfl | h0 := Nat.eq_zero_or_pos e
  · rfl
  · obtain hlt | rfl := h.lt_or_eq
    · rw [decEntry_of_lt w c h0 hlt]; rfl
    · rw [decEntry_self w c h1, Nat.sub_self]; rfl

/-- The last `count` interior rounds, which are those of the entries from `e + 1` on. -/
theorem decRounds_eq (count e : Nat) : decRounds w count (decState w (e + 1 + count) c e) =
    ((List.range' (e + 1) count).map fun i => decInterior w (e + 1 + count - i) (decState w (e + 1 + count) c (i - 1)),
      decState w (e + 1 + count) c (e + count)) := by
  induction count generalizing e with
  | zero => rfl
  | succ count ih =>
    have hnr : e + 1 + (count + 1) = e + 1 + 1 + count := by omega
    have hround : e + 1 + (count + 1) - (e + 1) = count + 1 := by omega
    have hout : decInteriorOut w (count + 1) (decState w (e + 1 + (count + 1)) c e) =
        decState w (e + 1 + (count + 1)) c (e + 1) := by rw [decState, hround]
    simp only [decRounds, hout, List.range'_succ, List.map_cons, hround, Nat.add_sub_cancel]
    rw [hnr, ih, Nat.add_right_comm e 1 count]
    rfl

/-- The interior rounds of a run, and the state they leave. -/
theorem decRounds_decFinalOut (m : Nat) : decRounds w m (decFinalOut w (m + 1) c) =
    ((List.range' 1 m).map (decEntry w (m + 1) c), decState w (m + 1) c m) := by
  have hrounds := decRounds_eq w c m 0
  rw [zero_add, Nat.add_comm 1 m, zero_add] at hrounds
  refine hrounds.trans (Prod.ext (List.map_congr_left fun i hi => ?_) rfl)
  rw [List.mem_range'_1] at hi
  exact (decEntry_of_lt w c hi.1 (by omega)).symm

theorem decryptWith_trace (h : 1 ≤ nr) : (decryptWith w nr c).trace = (List.range (nr + 1)).map (decEntry w nr c) := by
  obtain ⟨m, rfl⟩ := Nat.exists_eq_add_of_le' h
  rw [List.range_eq_range', List.range'_succ, List.range'_1_concat, List.map_cons, List.map_append, zero_add,
    List.map_singleton, Nat.add_comm 1 m, decEntry_self w c h, decEntry_zero]
  simp only [decryptWith, Nat.add_sub_cancel, decRounds_decFinalOut]

theorem decryptWith_trace_getElem? (h : 1 ≤ nr) (he : e ≤ nr) :
    (decryptWith w nr c).trace[e]? = some (decEntry w nr c e) := by
  simp [decryptWith_trace w c h, Nat.lt_succ_of_le he]

theorem decryptWith_result (h : 1 ≤ nr) : (decryptWith w nr c).result = (decEntry w nr c nr).keyed := by
  obtain ⟨m, rfl⟩ := Nat.exists_eq_add_of_le' h
  rw [decEntry_self w c h]
  simp only [decryptWith, Nat.add_sub_cancel, decRounds_decFinalOut]

end

/-! ### The inverse cipher walks the states of the cipher back (42 R133, R134) -/

section
variable (w : List Word) {nr e : Nat} (p : Block)

theorem encryptWith_result_eq (h : 1 ≤ nr) :
    (encryptWith w nr p).result = addRoundKey w nr (shiftRows (subBytes (encState w p (nr - 1)))) := by
  rw [encryptWith_result w p h, encEntry_self w p h]
  rfl

/-- Entry `e` of the decryption hands on what round `nr - 1 - e` of the encryption handed on. -/
theorem decState_encryptWith (h : e < nr) :
    decState w nr (encryptWith w nr p).result e = encState w p (nr - 1 - e) := by
  induction e with
  | zero =>
    rw [decState, decFinalOut, encryptWith_result_eq w p h, addRoundKey_addRoundKey, invShiftRows_shiftRows,
      invSubBytes_subBytes]
    rfl
  | succ e ih =>
    have hround : nr - 1 - e = nr - 1 - (e + 1) + 1 := by omega
    have hkey : nr - (e + 1) = nr - 1 - (e + 1) + 1 := by omega
    rw [decState, ih (by omega), hround, hkey, decInteriorOut, encState, addRoundKey_addRoundKey, invMixColumns_mixColumns,
      invShiftRows_shiftRows, invSubBytes_subBytes]

theorem decryptWith_encryptWith (h : 1 ≤ nr) : (decryptWith w nr (encryptWith w nr p).result).result = p := by
  have hlast := decState_encryptWith w p (nr := nr) (e := nr - 1) (by omega)
  rw [decryptWith_result w _ h, decEntry_self w _ h, hlast, Nat.sub_self]
  exact addRoundKey_addRoundKey w 0 p

end

/-- There are finitely many blocks, since a block is its elements. -/
theorem finite_block : Finite Block :=
  Finite.of_injective blockAt fun _ _ h => block_ext fun r c => congrFun (congrFun h r) c

/-- The cipher under a schedule is an injective map of a finite set, so the map that undoes it is undone by it. -/
theorem encryptWith_decryptWith (w : List Word) {nr : Nat} (c : Block) (h : 1 ≤ nr) :
    (encryptWith w nr (decryptWith w nr c).result).result = c := by
  have hleft : Function.LeftInverse (fun b => (decryptWith w nr b).result) fun b => (encryptWith w nr b).result :=
    fun p => decryptWith_encryptWith w p h
  have := finite_block
  exact hleft.rightInverse_of_surjective (Finite.surjective_of_injective hleft.injective) c

/-- Settles O44: the two sides are the entries of the same round, which start from the same state. -/
theorem decryptTraceMirrorsEncrypt : Obligations.DecryptTraceMirrorsEncrypt := by
  intro p k nr r e e' d h1 hle he he' hd
  simp only [encrypt, decrypt] at he he' hd
  have hnr : 1 ≤ nr := h1.trans hle
  rw [encryptWith_trace_getElem? _ p hnr (by omega), Option.some.injEq] at he he'
  rw [decryptWith_trace_getElem? _ _ hnr (Nat.sub_le nr r), Option.some.injEq] at hd
  subst he he' hd
  rw [encEntry_keyed _ p (by omega)]
  obtain hlt | rfl := hle.lt_or_eq
  · obtain ⟨m, rfl⟩ := Nat.exists_eq_add_of_le' h1
    have hstate := decState_encryptWith (expand k nr) p (nr := nr) (e := nr - (m + 1) - 1) (by omega)
    rw [show nr - 1 - (nr - (m + 1) - 1) = m + 1 by omega] at hstate
    rw [encEntry_of_lt _ p h1 hlt, decEntry_of_lt _ _ (by omega) (by omega), hstate, Nat.sub_sub_self hle]
    refine ⟨rfl, rfl, ?_, ?_, fun _ => ⟨?_, ?_⟩, fun h => absurd h hlt.ne⟩ <;>
      simp [decInterior, decInteriorOut, encInterior, encState]
  · rw [encEntry_self _ p h1, Nat.sub_self, decEntry_zero, encryptWith_result_eq _ p h1]
    refine ⟨rfl, rfl, ?_, ?_, fun h => absurd h (lt_irrefl r), fun _ => ?_⟩ <;> simp [decFinal, encFinal]
end Sys2Proof.Machine
end

section
/-! PROOF. The block commands: their operand checks, their completions and their frame, and that they undo each other (42 R134
to R138). -/
namespace Sys2Proof.Machine
open Sys2Proof.Claims

/-! ### Operand checks -/

@[simp] theorem nrOf_bytes (k : KeySize) : nrOf k.bytes = k.nr := by cases k <;> rfl

@[simp] theorem one_le_nr (k : KeySize) : 1 ≤ k.nr := by cases k <;> decide

@[simp] theorem checkCipher_bytes (k : KeySize) : checkCipher k.bytes 16 = .ok k := by
  rw [checkCipher, sizeOfKey_bytes]; rfl

theorem checkCipher_of_ne {klen blen : Byte} (h : blen ≠ 16) : checkCipher klen blen = .error .blklen :=
  if_pos fun hb => h (BitVec.eq_of_toNat_eq hb)

theorem checkCipher_of_not_keyLength {klen : Byte} (h : ¬ KeyLength klen) : checkCipher klen 16 = .error .keylen := by
  rw [checkCipher, sizeOfKey_eq_none h]; rfl

theorem ne_none_of_checkCipher {klen blen : Byte} {e : ErrorCode} (h : checkCipher klen blen = .error e) : e ≠ .none := by
  unfold checkCipher at h
  split at h
  · cases h; decide
  · split at h <;> cases h
    decide

/-! ### Completions, by the outcome of the check -/

/-- The commands `cmd` of opcode `op` complete by the operand checks, then `writes` for the key size (42 R135). -/
def CompletesBy (op : Byte) (cmd : Byte → Byte → Instr) (writes : State → KeySize → State) : Prop :=
  ∀ klen blen s, exec (cmd klen blen) s = complete op s ((checkCipher klen blen).map (writes s))

/-- What ENC and DEC write: the outputs of a run, the trace invalidated. -/
def plainWrites (run : State → KeySize → CipherRun) (s : State) (k : KeySize) : State :=
  (s.cipherOut (run s k)).dropTrace

/-- What ENCT and DECT write: the outputs of a run and its trace. -/
def tracedWrites (d : Dir) (run : State → KeySize → CipherRun) (s : State) (k : KeySize) : State :=
  (s.cipherOut (run s k)).recordTrace d (run s k).trace

theorem enc_completesBy : CompletesBy 0x20 .enc (plainWrites encryptRun) := fun _ _ _ => rfl

theorem dec_completesBy : CompletesBy 0x21 .dec (plainWrites decryptRun) := fun _ _ _ => rfl

theorem enct_completesBy : CompletesBy 0x22 .enct (tracedWrites .encrypt encryptRun) := fun _ _ _ => rfl

theorem dect_completesBy : CompletesBy 0x23 .dect (tracedWrites .decrypt decryptRun) := fun _ _ _ => rfl

section
variable {op : Byte} {cmd : Byte → Byte → Instr} {writes : State → KeySize → State}

theorem CompletesBy.exec_bytes (h : CompletesBy op cmd writes) (k : KeySize) (s : State) :
    exec (cmd k.bytes 16) s = .next ((writes s k).finish op .none) := by
  rw [h, checkCipher_bytes]; rfl

theorem CompletesBy.cipherChecks (h : CompletesBy op cmd writes) : CipherChecks op cmd := by
  refine ⟨fun klen blen s hb => ?_, fun klen s hk => ?_⟩
  · rw [h, checkCipher_of_ne hb]; rfl
  · rw [h, checkCipher_of_not_keyLength hk]; rfl

/-- A block command fails with a code and the completion update alone, or succeeds with its writes. -/
theorem CompletesBy.cases (h : CompletesBy op cmd writes) {klen blen : Byte} {s t : State}
    (ht : exec (cmd klen blen) s = .next t) :
    (∃ e, e ≠ .none ∧ t = s.finish op e) ∨ ∃ k, t = (writes s k).finish op .none := by
  rw [h] at ht
  cases hc : checkCipher klen blen with
  | error e => rw [hc] at ht; cases ht; exact .inl ⟨e, ne_none_of_checkCipher hc, rfl⟩
  | ok k => rw [hc] at ht; cases ht; exact .inr ⟨k, rfl⟩

end

/-! ### What the completions write, in the terms of the statements -/

theorem keyOf_bytes (s : State) (k : KeySize) : keyOf s k.bytes = keyWords s k := by rw [keyOf, nkOf_bytes, keyWords]

theorem encRun_bytes (s : State) (k : KeySize) : encRun s k.bytes = encryptRun s k := by
  rw [encRun, keyOf_bytes, nrOf_bytes]; rfl

theorem decRun_bytes (s : State) (k : KeySize) : decRun s k.bytes = decryptRun s k := by
  rw [decRun, keyOf_bytes, nrOf_bytes]; rfl

section
variable (s : State) {r : CipherRun} {k : KeySize}

theorem cipherOut_eq_cipherWrites (h : r.sched.length = 4 * (k.nr + 1)) :
    s.cipherOut r = cipherWrites s k.bytes r := by
  rw [cipherWrites, nrOf_bytes, ← h]; rfl

theorem recordTrace_eq_withTrace (d : Dir) (h : r.trace.length = k.nr + 1) :
    s.recordTrace d r.trace = withTrace s k.bytes d r := by
  rw [withTrace, nrOf_bytes, ← h]; rfl

/-- The stored trace words are kept, which the statement leaves open (log 10). -/
theorem plainWrites_finish {run : State → KeySize → CipherRun} (h : (run s k).sched.length = 4 * (k.nr + 1)) (op : Byte) :
    (plainWrites run s k).finish op .none = success op (noTrace (cipherWrites s k.bytes (run s k)) s.trace) := by
  rw [plainWrites, cipherOut_eq_cipherWrites s h]; rfl

theorem tracedWrites_finish {run : State → KeySize → CipherRun} (h : (run s k).sched.length = 4 * (k.nr + 1))
    (ht : (run s k).trace.length = k.nr + 1) (d : Dir) (op : Byte) :
    (tracedWrites d run s k).finish op .none =
      success op (withTrace (cipherWrites s k.bytes (run s k)) k.bytes d (run s k)) := by
  rw [tracedWrites, cipherOut_eq_cipherWrites s h, recordTrace_eq_withTrace _ d ht]; rfl

end

/-- Settles O29: by the operand checks, which name the key size, and the length of the schedule. -/
theorem encAndDecComplete : Obligations.EncAndDecComplete := by
  refine ⟨fun klen s hk => ?_, fun klen s hk => ?_, enc_completesBy.cipherChecks, dec_completesBy.cipherChecks,
    twoFieldCommand rfl (fun _ _ => rfl) (fun _ _ => rfl) fun _ _ => rfl,
    twoFieldCommand rfl (fun _ _ => rfl) (fun _ _ => rfl) fun _ _ => rfl⟩
  · obtain ⟨k, rfl⟩ := keyLength_iff.mp hk
    exact ⟨s.trace, by
      rw [enc_completesBy.exec_bytes, plainWrites_finish s (encryptRun_sched_length s k), encRun_bytes]⟩
  · obtain ⟨k, rfl⟩ := keyLength_iff.mp hk
    exact ⟨s.trace, by
      rw [dec_completesBy.exec_bytes, plainWrites_finish s (decryptRun_sched_length s k), decRun_bytes]⟩

/-- Settles O30: the same, and the length of the trace. -/
theorem enctAndDectComplete : Obligations.EnctAndDectComplete := by
  refine ⟨fun klen s hk => ?_, fun klen s hk => ?_, enct_completesBy.cipherChecks, dect_completesBy.cipherChecks,
    twoFieldCommand rfl (fun _ _ => rfl) (fun _ _ => rfl) fun _ _ => rfl,
    twoFieldCommand rfl (fun _ _ => rfl) (fun _ _ => rfl) fun _ _ => rfl⟩
  · obtain ⟨k, rfl⟩ := keyLength_iff.mp hk
    rw [enct_completesBy.exec_bytes, encRun_bytes,
      tracedWrites_finish s (encryptRun_sched_length s k) (encryptRun_trace_length s k)]
  · obtain ⟨k, rfl⟩ := keyLength_iff.mp hk
    rw [dect_completesBy.exec_bytes, decRun_bytes,
      tracedWrites_finish s (decryptRun_sched_length s k) (decryptRun_trace_length s k)]

/-! ### The frame -/

/-- What a block command does: the completion update, after the outputs of a run and its trace dropped or recorded where the
checks pass. -/
theorem exec_blockCommand {i : Instr} {s t : State} (hi : blockCommand i = true) (h : exec i s = .next t) :
    (∃ e, e ≠ .none ∧ t = s.finish i.opcode e) ∨
      (∃ r, t = (s.cipherOut r).dropTrace.finish i.opcode .none) ∨
        (tracedCommand i = true ∧ ∃ r d, t = ((s.cipherOut r).recordTrace d r.trace).finish i.opcode .none) := by
  cases i with
  | enc klen blen => exact (enc_completesBy.cases h).imp_right fun ⟨k, ht⟩ => .inl ⟨encryptRun s k, ht⟩
  | dec klen blen => exact (dec_completesBy.cases h).imp_right fun ⟨k, ht⟩ => .inl ⟨decryptRun s k, ht⟩
  | enct klen blen => exact (enct_completesBy.cases h).imp_right fun ⟨k, ht⟩ => .inr ⟨rfl, encryptRun s k, .encrypt, ht⟩
  | dect klen blen => exact (dect_completesBy.cases h).imp_right fun ⟨k, ht⟩ => .inr ⟨rfl, decryptRun s k, .decrypt, ht⟩
  | _ => cases hi

/-- Of the registers, writing the output block changes BOUT alone. -/
theorem view_setBout (s : State) (x : Block) {r : Reg} (hbout : ¬ IsBout r) : view (s.setBout x) r = view s r := by
  cases r with
  | bout c => exact absurd ⟨c, rfl⟩ hbout
  | _ => rfl

/-- Of the registers, invalidating the trace changes STATUS, INFO and TRACE alone. -/
theorem view_dropTrace (s : State) {r : Reg} (hst : r ≠ .status) (hinfo : r ≠ .info) (htrace : ¬ IsTrace r) :
    view s.dropTrace r = view s r := by
  cases r with
  | status => exact absurd rfl hst
  | info => exact absurd rfl hinfo
  | trace e w => exact absurd ⟨e, w, rfl⟩ htrace
  | _ => rfl

/-- Of the registers, recording a trace changes STATUS, INFO and TRACE alone. -/
theorem view_recordTrace_of_ne (s : State) (d : Dir) (l : List Snapshot) {r : Reg} (hst : r ≠ .status) (hinfo : r ≠ .info)
    (htrace : ¬ IsTrace r) : view (s.recordTrace d l) r = view s r := by
  cases r with
  | status => exact absurd rfl hst
  | info => exact absurd rfl hinfo
  | trace e w => exact absurd ⟨e, w, rfl⟩ htrace
  | _ => rfl

/-- An invalid trace reads 0 (10 R38). -/
theorem view_trace_of_invalid {s : State} (h : s.tv = false) (e : Fin 15) (w : Fin 32) : view s (.trace e w) = 0 :=
  if_pos (.inl h)

theorem view_cipherOut (s : State) (x : CipherRun) {r : Reg} (hinfo : r ≠ .info) (hsched : ¬ IsSched r) (hbout : ¬ IsBout r) :
    view (s.cipherOut x) r = view s r := by
  rw [State.cipherOut, view_loadSched _ _ hinfo hsched, view_setBout s _ hbout]

/-- Settles O34: the completion update touches STATUS alone, the writes before it BOUT, SCHED, INFO and TRACE. -/
theorem blockCommandFrame : Obligations.BlockCommandFrame := by
  intro i s t hi h
  obtain ⟨e, he, rfl⟩ | ⟨x, rfl⟩ | ⟨htraced, x, d, rfl⟩ := exec_blockCommand hi h
  · exact ⟨fun r hst _ _ _ _ => view_finish s _ _ r hst, fun _ hok => absurd hok he, rfl, rfl, rfl, rfl, rfl, rfl, rfl⟩
  · refine ⟨fun r hst hinfo hsched hbout htrace => ?_, fun _ _ e w => view_trace_of_invalid rfl e w, rfl,
      rfl, rfl, rfl, rfl, rfl, rfl⟩
    rw [view_finish _ _ _ r hst, view_dropTrace _ hst hinfo htrace, view_cipherOut s x hinfo hsched hbout]
  · refine ⟨fun r hst hinfo hsched hbout htrace => ?_, fun hplain => by simp [htraced] at hplain, rfl, rfl, rfl, rfl, rfl,
      rfl, rfl⟩
    rw [view_finish _ _ _ r hst, view_recordTrace_of_ne _ d _ hst hinfo htrace, view_cipherOut s x hinfo hsched hbout]

/-! ### DEC undoes ENC and ENC undoes DEC -/

/-- Settles O43: the functions by the states they share; of the commands, the second runs on the first one's BOUT under the
same key, which the first leaves. -/
theorem decryptInvertsEncrypt : Obligations.DecryptInvertsEncrypt := by
  have hfunctions (b : Block) (k : List Word) (nr : Nat) (h : 1 ≤ nr) :
      (decrypt (encrypt b k nr).result k nr).result = b ∧ (encrypt (decrypt b k nr).result k nr).result = b :=
    ⟨decryptWith_encryptWith _ b h, encryptWith_decryptWith _ b h⟩
  refine ⟨hfunctions, fun klen s hk => ?_⟩
  obtain ⟨k, rfl⟩ := keyLength_iff.mp hk
  obtain ⟨hdec, henc⟩ := hfunctions (inputBlock s) (keyWords s k) k.nr (one_le_nr k)
  refine ⟨⟨_, _, enc_completesBy.exec_bytes k s, dec_completesBy.exec_bytes k _, ?_⟩,
    _, _, dec_completesBy.exec_bytes k s, enc_completesBy.exec_bytes k _, ?_⟩
  · calc blockToBank (decrypt (bankToBlock (blockToBank (encryptRun s k).result)) (keyWords s k) k.nr).result
        = blockToBank (inputBlock s) := by rw [bankToBlock_blockToBank, encryptRun, hdec]
      _ = s.bin := blockToBank_bankToBlock s.bin
  · calc blockToBank (encrypt (bankToBlock (blockToBank (decryptRun s k).result)) (keyWords s k) k.nr).result
        = blockToBank (inputBlock s) := by rw [bankToBlock_blockToBank, decryptRun, henc]
      _ = s.bin := blockToBank_bankToBlock s.bin

end Sys2Proof.Machine
end

section
/-! PROOF. The hidden sequencer: it takes its first stage when a command is accepted, and the chains of the block commands
(10 R39, 42 R130, R131; log 4). -/
namespace Sys2Proof.Machine
open Sys2Proof.Claims

/-! ### Stages -/

theorem decode_encode (i : Instr) : decode (encode i) = .ok i := (decodeInvertsEncode (encode i) i).mpr rfl

theorem encode_ne_srstWord {i : Instr} (hi : i ≠ .srst) : encode i ≠ srstWord := fun h => by
  have hsrst : decode (encode i) = .ok .srst := by rw [h]; exact decode_encode .srst
  rw [decode_encode] at hsrst
  cases hsrst
  exact hi rfl

theorem firstStageOf_encode (i : Instr) : firstStageOf (encode i) = firstStage i := by rw [firstStageOf, decode_encode]

theorem nextStageOf_encode (i : Instr) (q : Seq) : nextStageOf (some (encode i)) q = nextStage i q := by
  simp only [nextStageOf, decode_encode]

theorem sequencerFollows (i : Instr) : SequencerFollows i := by
  refine ⟨fun s ts rest hi hb h => ?_, fun s ts hpin hpend hturns => ?_⟩
  · refine ⟨_, (step_of_hostTurn_write h).trans (writeStep_cmd_of_idle (encode_ne_srstWord hi) hb), rfl, ?_⟩
    exact firstStageOf_encode i
  · rw [step_of_turns_stage hturns, State.advanceSeq]
    simp only [hpin, hpend, if_true, nextStageOf_encode]

/-- Only a block command leaves the stage Start (10 R39). -/
theorem stages_of_not_blockCommand {i : Instr} (h : blockCommand i = false) :
    firstStage i = .start ∧ nextStage i .start = .start := by
  cases i with
  | enc | dec | enct | dect => cases h
  | _ => exact ⟨rfl, rfl⟩

/-! ### The chains -/

theorem iterate_stageUp (nr n : Nat) : (stageUp nr)^[n] (.round 0) = if n ≤ nr then .round n else .done := by
  induction n with
  | zero => rfl
  | succ n ih =>
    rw [Function.iterate_succ_apply', ih]
    obtain hlt | rfl | hgt := lt_trichotomy n nr
    · rw [if_pos hlt.le, stageUp, if_pos hlt, if_pos (c := n + 1 ≤ nr) hlt]
    · rw [if_pos le_rfl, if_neg (by omega), stageUp, if_neg (lt_irrefl n)]
    · rw [if_neg (by omega), if_neg (by omega), stageUp]

theorem iterate_stageDown (nr n : Nat) : stageDown^[n] (.round nr) = if n ≤ nr then .round (nr - n) else .done := by
  induction n with
  | zero => rfl
  | succ n ih =>
    rw [Function.iterate_succ_apply', ih]
    obtain hlt | rfl | hgt := lt_trichotomy n nr
    · rw [if_pos hlt.le, if_pos (c := n + 1 ≤ nr) hlt, show nr - n = nr - (n + 1) + 1 by omega, stageDown]
    · rw [if_pos le_rfl, if_neg (by omega), Nat.sub_self, stageDown]
    · rw [if_neg (by omega), if_neg (by omega), stageDown]

section
variable (k : KeySize) (n : Nat)

theorem stagesAfter_enc : stagesAfter (.enc k.bytes 16) n = if n ≤ k.nr then .round n else .done := by
  have hnext : nextStage (.enc k.bytes 16) = stageUp k.nr := funext fun q => by simp only [nextStage, checkCipher_bytes]
  rw [← iterate_stageUp, stagesAfter, hnext, firstStage, checkCipher_bytes]

theorem stagesAfter_dec : stagesAfter (.dec k.bytes 16) n = if n ≤ k.nr then .round (k.nr - n) else .done := by
  have hnext : nextStage (.dec k.bytes 16) = stageDown := funext fun q => by simp only [nextStage, checkCipher_bytes]
  rw [← iterate_stageDown, stagesAfter, hnext, firstStage, checkCipher_bytes]

/-- A traced command goes through the stages of the plain one. -/
theorem stagesAfter_enct (klen blen : Byte) : stagesAfter (.enct klen blen) n = stagesAfter (.enc klen blen) n := rfl

theorem stagesAfter_dect (klen blen : Byte) : stagesAfter (.dect klen blen) n = stagesAfter (.dec klen blen) n := rfl

end

/-- Settles O41: the snapshots as a function of the round, the sequencer by its chain. -/
theorem cipherRounds : Obligations.CipherRounds := by
  refine ⟨fun p k nr h => ?_, fun klen n hk => ?_⟩
  · simp only [encrypt]
    generalize expand k nr = w
    have hentry {r : Nat} (hr : r ≤ nr) := encryptWith_trace_getElem? w p h hr
    have hkeyed {r : Nat} {e : Snapshot} (hr : r < nr) (he : (encryptWith w nr p).trace[r]? = some e) :
        encState w p r = e.keyed := by
      rw [hentry hr.le, Option.some.injEq] at he
      rw [← he, encEntry_keyed w p hr]
    refine ⟨rfl, by simp [encryptWith_trace w p h], rfl, fun r e h1 hr he => ?_, fun e he => ?_, fun e he => ?_⟩
    · rw [hentry hr.le, encEntry_of_lt w p h1 hr, hkeyed (by omega) he]
      rfl
    · rw [hentry le_rfl, encEntry_self w p h, hkeyed (by omega) he]
      rfl
    · rw [hentry le_rfl, Option.some.injEq] at he
      rw [encryptWith_result w p h, he]
  · obtain ⟨k, rfl⟩ := keyLength_iff.mp hk
    rw [stagesAfter_enct, stagesAfter_enc, nrOf_bytes]
    exact ⟨⟨rfl, rfl⟩, fun i => ⟨sequencerFollows i, stages_of_not_blockCommand⟩⟩

/-- Settles O42: the same in processing order. -/
theorem inverseCipherRounds : Obligations.InverseCipherRounds := by
  refine ⟨fun c k nr h => ?_, fun klen n hk => ?_⟩
  · simp only [decrypt]
    generalize expand k nr = w
    have hentry {e : Nat} (he : e ≤ nr) := decryptWith_trace_getElem? w c h he
    have hsub {e : Nat} {d : Snapshot} {x : Block} (he : e < nr) (hd : (decryptWith w nr c).trace[e]? = some d)
        (hx : d.sub = some x) : decState w nr c e = x := by
      rw [hentry he.le, Option.some.injEq] at hd
      rw [← hd, decEntry_sub w c he, Option.some.injEq] at hx
      exact hx
    refine ⟨rfl, by simp [decryptWith_trace w c h], rfl, fun e d x h1 he hd hx => ?_, fun d x hd hx => ?_, fun d hd => ?_⟩
    · rw [hentry he.le, decEntry_of_lt w c h1 he, hsub (by omega) hd hx]
      rfl
    · rw [hentry le_rfl, decEntry_self w c h, hsub (by omega) hd hx]
      rfl
    · rw [hentry le_rfl, Option.some.injEq] at hd
      rw [decryptWith_result w c h, hd]
  · obtain ⟨k, rfl⟩ := keyLength_iff.mp hk
    rw [stagesAfter_dect, stagesAfter_dec, nrOf_bytes]
    exact ⟨⟨rfl, rfl⟩, sequencerFollows _, sequencerFollows _⟩

end Sys2Proof.Machine
end

section
/-! PROOF. The words of a trace entry, and the traces ENCT and DECT leave (42 R132, R133, R137 to R139). -/
namespace Sys2Proof.Machine
open Sys2Proof.Claims

/-! ### The descriptor as a sum of its fields (10 R36) -/

/-- A bit above all those of a word adds its power of two. -/
theorem toNat_or_one_shiftLeft {x : Word} {k : Nat} (hk : k < 32) (hx : x.toNat < 2 ^ k) :
    (x ||| ((1 : Word) <<< k)).toNat = 2 ^ k + x.toNat := by
  have hbit : ((1 : Word) <<< k).toNat = 2 ^ k := by
    rw [BitVec.toNat_shiftLeft, Nat.shiftLeft_eq]
    exact (Nat.mod_eq_of_lt (by simpa using Nat.pow_lt_pow_right one_lt_two hk)).trans (one_mul _)
  have hsum := Nat.two_pow_add_eq_or_of_lt hx 1
  rw [mul_one] at hsum
  rw [BitVec.toNat_or, hbit, hsum, Nat.lor_comm]

/-- The fold that sets bit `16 + slot` for the slots of an ascending list that satisfy `p`, as a sum. -/
theorem foldl_setBit_toNat (p : Nat → Bool) {l : List Nat} {acc : Word} (hl : l.Pairwise (· < ·))
    (h : ∀ slot ∈ l, slot < 16 ∧ acc.toNat < 2 ^ (16 + slot)) :
    (l.foldl (fun acc slot => if p slot then acc ||| ((1 : Word) <<< (16 + slot)) else acc) acc).toNat =
      acc.toNat + (l.map fun slot => if p slot then 2 ^ (16 + slot) else 0).sum := by
  induction l generalizing acc with
  | nil => rfl
  | cons a l ih =>
    obtain ⟨ha, hl⟩ := List.pairwise_cons.mp hl
    obtain ⟨ha16, hacc⟩ := h a List.mem_cons_self
    rw [List.foldl_cons, List.map_cons, List.sum_cons]
    cases p a with
    | false =>
      rw [if_neg Bool.false_ne_true, if_neg Bool.false_ne_true, zero_add]
      exact ih hl fun slot hs => h slot (List.mem_cons_of_mem a hs)
    | true =>
      have hset := toNat_or_one_shiftLeft (show 16 + a < 32 by omega) hacc
      rw [if_pos rfl, if_pos rfl, ih hl fun slot hs => ?_, hset]
      · omega
      · obtain ⟨hs16, -⟩ := h slot (List.mem_cons_of_mem a hs)
        have hpow : 2 ^ (16 + a + 1) ≤ 2 ^ (16 + slot) := Nat.pow_le_pow_right two_pos (by have := ha slot hs; omega)
        exact ⟨hs16, by rw [hset]; omega⟩

theorem presentBits_toNat (e : Snapshot) : (presentBits e).toNat =
    ([1, 2, 3, 4, 5, 6].map fun slot => if (snapshotField e slot).isSome then 2 ^ (16 + slot) else 0).sum := by
  rw [presentBits, foldl_setBit_toNat (fun slot => (snapshotField e slot).isSome) (by decide) (by decide)]
  exact Nat.zero_add _

/-- ROUND, KIND and DIR do not overlap. -/
theorem descriptorLow_toNat {r : Nat} (hr : r ≤ 15) (k : RoundKind) (d : Dir) :
    (BitVec.ofNat 32 r ||| (BitVec.ofNat 32 (kindCode k) <<< 4) ||| (BitVec.ofNat 32 (dirCode d) <<< 8)).toNat =
      r + 16 * kindCode k + 256 * dirCode d := by
  have hall : ∀ r : Fin 16, (BitVec.ofNat 32 r.val ||| (BitVec.ofNat 32 (kindCode k) <<< 4) |||
      (BitVec.ofNat 32 (dirCode d) <<< 8)).toNat = r.val + 16 * kindCode k + 256 * dirCode d := by
    cases k <;> cases d <;> decide
  exact hall ⟨r, by omega⟩

/-- PRESENT stands above bit 15. -/
theorem presentBits_eq_mul (e : Snapshot) : ∃ m, (presentBits e).toNat = 2 ^ 16 * m :=
  dvd_def.mp <| presentBits_toNat e ▸ List.dvd_sum fun x hx => by
    obtain ⟨slot, -, rfl⟩ := List.mem_map.mp hx
    split
    · exact pow_dvd_pow 2 (Nat.le_add_right 16 slot)
    · exact dvd_zero _

theorem descriptorWord_toNat (d : Dir) {e : Snapshot} (hr : e.round ≤ 15) :
    (descriptorWord d e).toNat = e.round + 16 * kindCode e.kind + 256 * dirCode d + (presentBits e).toNat := by
  obtain ⟨m, hm⟩ := presentBits_eq_mul e
  have hkind : kindCode e.kind ≤ 3 := by cases e.kind <;> decide
  have hdir : dirCode d ≤ 1 := by cases d <;> decide
  rw [descriptorWord, BitVec.toNat_or, descriptorLow_toNat hr, hm, Nat.lor_comm,
    ← Nat.two_pow_add_eq_or_of_lt (by omega), Nat.add_comm]

theorem traceWords_getElem_of_none {d : Dir} {t : List Snapshot} {e : Fin 15} (h : t[e.val]? = none) (w : Fin 32) :
    (traceWords d t)[e][w] = 0 := by
  simp [traceWords, emptyEntry, h]

/-- Settles O46: word 0 by the sum of the descriptor's fields, the others by their sub-slot. -/
theorem traceEntryWords : Obligations.TraceEntryWords := by
  intro d t e
  refine ⟨fun snap h hr => ?_, fun snap h => ?_, fun snap slot c h h1 => ?_, traceWords_getElem_of_none⟩
  · have hword : (traceWords d t)[e][0] = descriptorWord d snap := traceWords_getElem_of_some h 0
    rw [hword, descriptorWord_toNat d hr, presentBits_toNat]
  · have hzero (w : Fin 32) (hw : 1 ≤ w.val ∧ w.val ≤ 3) : (traceWords d t)[e][w] = 0 :=
      (traceWords_getElem_of_some h w).trans (entryWord_reserved d snap w hw)
    exact ⟨hzero 1 (by decide), hzero 2 (by decide), hzero 3 (by decide)⟩
  · rw [traceWords_getElem_of_some h, entryWord_slot d snap slot c h1]
    exact ⟨fun b hb => by rw [hb]; rfl, fun hn => by rw [hn]; rfl⟩

/-! ### The trace a command leaves, from its entries -/

/-- A trace of `nr + 1` snapshots, one per round (42 R132, R133): `entry e` is that of entry `e`, the last KEYED the result. -/
structure TraceOf (run : CipherRun) (nr : Nat) (entry : Nat → Snapshot) : Prop where
  trace : run.trace = (List.range (nr + 1)).map entry
  round : ∀ e ≤ nr, (entry e).round ≤ nr
  result : run.result = (entry nr).keyed

section
variable {run : State → KeySize → CipherRun} {s : State} {k : KeySize} {entry : Nat → Snapshot}

theorem encryptRun_traceOf (s : State) (k : KeySize) :
    TraceOf (encryptRun s k) k.nr (encEntry (expand (keyWords s k) k.nr) k.nr (inputBlock s)) where
  trace := encryptWith_trace _ _ (one_le_nr k)
  round _ he := (encEntry_round _ _ (one_le_nr k) he).trans_le he
  result := encryptWith_result _ _ (one_le_nr k)

theorem decryptRun_traceOf (s : State) (k : KeySize) :
    TraceOf (decryptRun s k) k.nr (decEntry (expand (keyWords s k) k.nr) k.nr (inputBlock s)) where
  trace := decryptWith_trace _ _ (one_le_nr k)
  round _ he := (decEntry_round _ _ (one_le_nr k) he).trans_le (Nat.sub_le _ _)
  result := decryptWith_result _ _ (one_le_nr k)

theorem TraceOf.length (h : TraceOf (run s k) k.nr entry) : (run s k).trace.length = k.nr + 1 := by
  rw [h.trace, List.length_map, List.length_range]

/-- What the host reads of the trace after a traced command. -/
theorem TraceOf.view_trace (h : TraceOf (run s k) k.nr entry) (d : Dir) (op : Byte) (e : Fin 15) (w : Fin 32) :
    view ((tracedWrites d run s k).finish op .none) (.trace e w) =
      if e.val ≤ k.nr then entryWord d (entry e) w else 0 := by
  have hnr := nr_le k
  have hround : ∀ snap ∈ (run s k).trace, snap.round ≤ 14 := by
    intro snap hs
    rw [h.trace] at hs
    obtain ⟨e, he, rfl⟩ := List.mem_map.mp hs
    exact (h.round e (Nat.lt_succ_iff.mp (List.mem_range.mp he))).trans hnr
  rw [view_finish _ _ _ _ Reg.noConfusion, tracedWrites, view_recordTrace _ (by rw [h.length]; omega) hround,
    h.trace, List.getElem?_map]
  split
  · next he => rw [List.getElem?_range (Nat.lt_succ_of_le he)]; rfl
  · next he => rw [List.getElem?_eq_none (by simpa using he)]; rfl

theorem TraceOf.tnum (h : TraceOf (run s k) k.nr entry) (d : Dir) (op : Byte) :
    ((tracedWrites d run s k).finish op .none).tnum.toNat = k.nr + 1 := by
  have hnr := nr_le k
  have htnum : ((tracedWrites d run s k).finish op .none).tnum = BitVec.ofNat 4 (run s k).trace.length := rfl
  rw [htnum, h.length, BitVec.toNat_ofNat]
  omega

/-- The KEYED field of the last entry is the block in BOUT. -/
theorem TraceOf.view_keyed (h : TraceOf (run s k) k.nr entry) (d : Dir) (op : Byte) {e : Fin 15} (he : e.val = k.nr)
    (c : Fin 4) : view ((tracedWrites d run s k).finish op .none) (.trace e (Fin.ofNat 32 (12 + c.val))) =
      view ((tracedWrites d run s k).finish op .none) (.bout c) := by
  have hbout : view ((tracedWrites d run s k).finish op .none) (.bout c) = blockWord (run s k).result c :=
    Vector.getElem_ofFn _
  have hkeyed := entryWord_slot d (entry k.nr) 3 c (by decide)
  rw [h.view_trace, if_pos he.le, he, hbout, h.result]
  exact hkeyed

theorem TraceOf.shape (h : TraceOf (run s k) k.nr entry) (d : Dir) (op : Byte) :
    let t := (tracedWrites d run s k).finish op .none
    t.tnum.toNat = k.nr + 1 ∧
    (∀ e : Fin 15, view t (.trace e 0) = if e.val ≤ k.nr then descriptorWord d (entry e) else 0) ∧
    (∀ (e : Fin 15) (w : Fin 32), k.nr < e.val → view t (.trace e w) = 0) ∧
    ∀ (e : Fin 15) (c : Fin 4), e.val = k.nr → view t (.trace e (Fin.ofNat 32 (12 + c.val))) = view t (.bout c) :=
  ⟨h.tnum d op, fun e => h.view_trace d op e 0, fun e w he => (h.view_trace d op e w).trans (if_neg (Nat.not_le.mpr he)),
    fun _ c he => h.view_keyed d op he c⟩

end

/-! ### The descriptors, kind by kind (42 R132, R133) -/

/-- The round stands beside what the kind of an entry, its fields and the direction make of the descriptor. -/
theorem descriptorWord_eq_or_round (d : Dir) (e : Snapshot) : descriptorWord d e =
    (BitVec.ofNat 32 (kindCode e.kind) <<< 4 ||| BitVec.ofNat 32 (dirCode d) <<< 8 ||| presentBits e) |||
      BitVec.ofNat 32 e.round := by
  rw [descriptorWord]
  ac_rfl

section
variable (w : List Word) (r : Nat) (x : Block)

theorem descriptorWord_encInitial : descriptorWord .encrypt (encInitial w x) = 0x000E0010 := by
  simp [descriptorWord_eq_or_round, presentBits, snapshotField, kindCode, dirCode, encInitial]

theorem descriptorWord_encInterior :
    descriptorWord .encrypt (encInterior w r x) = 0x007C0020 ||| BitVec.ofNat 32 r := by
  simp [descriptorWord_eq_or_round, presentBits, snapshotField, kindCode, dirCode, encInterior]

theorem descriptorWord_encFinal : descriptorWord .encrypt (encFinal w r x) = 0x003C0030 ||| BitVec.ofNat 32 r := by
  simp [descriptorWord_eq_or_round, presentBits, snapshotField, kindCode, dirCode, encFinal]

theorem descriptorWord_decFinal : descriptorWord .decrypt (decFinal w r x) = 0x003E0130 ||| BitVec.ofNat 32 r := by
  simp [descriptorWord_eq_or_round, presentBits, snapshotField, kindCode, dirCode, decFinal]

theorem descriptorWord_decInterior :
    descriptorWord .decrypt (decInterior w r x) = 0x007C0120 ||| BitVec.ofNat 32 r := by
  simp [descriptorWord_eq_or_round, presentBits, snapshotField, kindCode, dirCode, decInterior]

theorem descriptorWord_decInitial : descriptorWord .decrypt (decInitial w x) = 0x000C0110 := by
  simp [descriptorWord_eq_or_round, presentBits, snapshotField, kindCode, dirCode, decInitial]

end

/-- A value by the place of an entry in a run of `nr` rounds: the first, an interior one, the last, or beyond them. -/
theorem ite_entry_eq {α : Type} {nr : Nat} (h : 1 ≤ nr) {f : Nat → α} {first last none : α} {interior : Nat → α}
    (hfirst : f 0 = first) (hinterior : ∀ e, 1 ≤ e → e < nr → f e = interior e) (hlast : f nr = last) (e : Nat) :
    (if e ≤ nr then f e else none) =
      if e = 0 then first else if e < nr then interior e else if e = nr then last else none := by
  obtain rfl | hpos := Nat.eq_zero_or_pos e
  · rw [if_pos (Nat.zero_le nr), if_pos rfl, hfirst]
  rw [if_neg hpos.ne']
  obtain hlt | rfl | hgt := lt_trichotomy e nr
  · rw [if_pos hlt.le, if_pos hlt, hinterior e hpos hlt]
  · rw [if_pos le_rfl, if_neg (lt_irrefl e), if_pos rfl, hlast]
  · rw [if_neg (by omega), if_neg (by omega), if_neg (by omega)]

/-- Settles O48: what the host reads of a recorded trace, on the entries of the cipher. -/
theorem encryptTraceShape : Obligations.EncryptTraceShape := by
  intro klen s hk
  obtain ⟨k, rfl⟩ := keyLength_iff.mp hk
  obtain ⟨htnum, hdesc, hunused, hkeyed⟩ := (encryptRun_traceOf s k).shape .encrypt 0x22
  rw [nrOf_bytes]
  refine ⟨_, enct_completesBy.exec_bytes k s, htnum, fun e => (hdesc e).trans ?_, hunused, hkeyed⟩
  have hnr := one_le_nr k
  refine ite_entry_eq hnr (f := fun e => descriptorWord .encrypt (encEntry _ _ _ e))
    (interior := fun e => 0x007C0020 ||| BitVec.ofNat 32 e) ?_ (fun e h1 he => ?_) ?_ e.val
  · rw [encEntry_zero, descriptorWord_encInitial]
  · rw [encEntry_of_lt _ _ h1 he, descriptorWord_encInterior]
  · rw [encEntry_self _ _ hnr, descriptorWord_encFinal]

/-- Settles O49: the same on the entries of the inverse cipher. -/
theorem decryptTraceShape : Obligations.DecryptTraceShape := by
  intro klen s hk
  obtain ⟨k, rfl⟩ := keyLength_iff.mp hk
  obtain ⟨htnum, hdesc, hunused, hkeyed⟩ := (decryptRun_traceOf s k).shape .decrypt 0x23
  rw [nrOf_bytes]
  refine ⟨_, dect_completesBy.exec_bytes k s, htnum, fun e => (hdesc e).trans ?_, hunused, hkeyed⟩
  have hnr := one_le_nr k
  refine ite_entry_eq hnr (f := fun e => descriptorWord .decrypt (decEntry _ _ _ e))
    (interior := fun e => 0x007C0120 ||| BitVec.ofNat 32 (k.nr - e)) ?_ (fun e h1 he => ?_) ?_ e.val
  · rw [decEntry_zero, descriptorWord_decFinal]
  · rw [decEntry_of_lt _ _ h1 he, descriptorWord_decInterior]
  · rw [decEntry_self _ _ hnr, descriptorWord_decInitial]
end Sys2Proof.Machine
end

section
/-! PROOF. The known answers of 95 V1 to V3: the cipher on the published inputs, the inverse cipher by inversion (log 7). -/
namespace Sys2Proof.Machine
open Sys2Proof.Claims

/-- The key of V1 to V3, of which each key size takes the first words. -/
def publishedKey : Vector Word 8 :=
  #v[0x00010203, 0x04050607, 0x08090a0b, 0x0c0d0e0f, 0x10111213, 0x14151617, 0x18191a1b, 0x1c1d1e1f]

/-- The plaintext of V1 to V3. -/
def publishedPlain : Vector Word 4 := #v[0x00112233, 0x44556677, 0x8899aabb, 0xccddeeff]

/-- The ciphertexts of V1 to V3. -/
def publishedCipher : KeySize → Vector Word 4
  | .k128 => #v[0x69c4e0d8, 0x6a7b0430, 0xd8cdb780, 0x70b4c55a]
  | .k192 => #v[0xdda97ca4, 0x864cdfe0, 0x6eaf70a0, 0xec0d7191]
  | .k256 => #v[0x8ea2b7ca, 0x516745bf, 0xeafc4990, 0x4b496089]

theorem encrypt_publishedPlain (k : KeySize) :
    (encrypt (bankToBlock publishedPlain) (publishedKey.toList.take k.nk) k.nr).result = bankToBlock (publishedCipher k) := by
  cases k <;> decide +kernel

section
variable {s : State} (hkey : s.key = publishedKey) (k : KeySize)
include hkey

theorem exec_enc_publishedPlain (hbin : s.bin = publishedPlain) :
    ∃ t, exec (.enc k.bytes 16) s = .next t ∧ t.bout = publishedCipher k := by
  refine ⟨_, enc_completesBy.exec_bytes k s, ?_⟩
  calc blockToBank (encrypt (bankToBlock s.bin) (s.key.toList.take k.nk) k.nr).result
      = blockToBank (bankToBlock (publishedCipher k)) := by rw [hkey, hbin, encrypt_publishedPlain]
    _ = publishedCipher k := blockToBank_bankToBlock _

theorem exec_dec_publishedCipher (hbin : s.bin = publishedCipher k) :
    ∃ t, exec (.dec k.bytes 16) s = .next t ∧ t.bout = publishedPlain := by
  refine ⟨_, dec_completesBy.exec_bytes k s, ?_⟩
  calc blockToBank (decrypt (bankToBlock s.bin) (s.key.toList.take k.nk) k.nr).result
      = blockToBank (bankToBlock publishedPlain) := by
        rw [hkey, hbin, ← encrypt_publishedPlain, encrypt, decrypt, decryptWith_encryptWith _ _ (one_le_nr k)]
    _ = publishedPlain := blockToBank_bankToBlock _

end

/-- Settles O45: ENC by the cipher's value on each key size, DEC since it inverts it. -/
theorem knownAnswers : Obligations.KnownAnswers := fun _ hkey =>
  ⟨fun hbin => ⟨exec_enc_publishedPlain hkey .k128 hbin, exec_enc_publishedPlain hkey .k192 hbin,
      exec_enc_publishedPlain hkey .k256 hbin⟩,
    exec_dec_publishedCipher hkey .k128, exec_dec_publishedCipher hkey .k192, exec_dec_publishedCipher hkey .k256⟩

end Sys2Proof.Machine
end

section
/-! PROOF. The system commands: NOP, and SRST at its write to CMD (43 R150, R151). -/
namespace Sys2Proof.Machine
open Sys2Proof.Claims

/-- Settles O21: the completion by its meaning, the encoding by its lack of operands, STATUS by the state after reset. -/
theorem nopCompletes : Obligations.NopCompletes :=
  ⟨fun _ => rfl, bareCommand rfl rfl rfl rfl, by decide, _, rfl, by decide⟩

/-- The soft reset leaves an engine at its reset values. -/
theorem holdsResetValues_softReset (s : State) : HoldsResetValues s.softReset :=
  holdsResetValues_respond (holdsResetValues_resetEngine s) _

/-- Settles O31: every register reads as 10 R42 says, as it does after reset; the SRST word runs at its write. -/
theorem srstResetsEverything : Obligations.SrstResetsEverything := by
  refine ⟨fun s => ?_, fun s ts rest h => (step_of_hostTurn_write h).trans (writeStep_srst _), by decide⟩
  obtain ⟨hview, -, -, -, hseq, hirq⟩ := holdsResetValues_softReset s
  obtain ⟨hreset, -⟩ := holdsResetValues_resetEngine State.reset
  exact ⟨s.softReset, rfl, rfl, rfl, hview .status, fun r => (hview r).trans (hreset r).symm, hseq, hirq, rfl⟩

end Sys2Proof.Machine
end

section
/-! PROOF. A step (60 R161, R167): which command it runs, and that it always answers a next state. -/
namespace Sys2Proof.Machine
open Sys2Proof.Claims

/-! ### Which command a step runs -/

section
variable {s : State} {w : Word}

/-- With no command in flight the engine's step is not enabled (60 R161, log 14). -/
theorem engineStep_of_idle (hb : s.busy = false) : engineStep s = .next s := by
  have hpend : s.pend = none := by simpa [State.busy] using hb
  have hflight : s.inFlight = none := by simp [State.inFlight, hpend]
  simp only [engineStep, hflight]

/-- A legal command in flight is run. -/
theorem engineStep_of_decode_ok (hn : s.rstN = true) (hp : s.pend = some w) {i : Instr} (hd : decode w = .ok i) :
    engineStep s = exec i s := by
  have hflight : s.inFlight = some w := inFlight_eq_some.mpr ⟨hn, hp⟩
  simp only [engineStep, hflight, hd]

/-- With no turn left the engine moves while a command is in flight, else the host (log 1). -/
theorem step_of_turns_nil_of_high (ht : s.turns = []) (hn : s.rstN = true) :
    step s = if s.busy = true then engineStep s else hostStep s := by
  rw [step_of_turns_nil ht, State.inFlight, if_pos hn, State.busy]

/-- Taking a turn laid down where none is left gives the state back. -/
theorem withTurns_nil_eq_self (ht : s.turns = []) : { s with turns := [] } = s := by rw [← ht]

end

/-- Settles O6: by whose turn is next; with no turn left BUSY says whose it is. -/
theorem stepRunsTheDecodedCommand : Obligations.StepRunsTheDecodedCommand := by
  refine ⟨fun s w i ts hn hp hd ht => ?_, fun s ts rest h => (step_of_hostTurn_write h).trans (writeStep_srst _),
    fun s ht hn => ⟨fun hb => ?_, fun hb => ?_⟩, fun s ts => ⟨fun ht hb => ?_, fun ht hh => ?_⟩⟩
  · rw [step_of_turns_engine ht, engineStep_of_decode_ok (s := { s with turns := ts }) hn hp hd]
  · rw [step_of_turns_nil_of_high ht hn, if_pos hb, step_of_turns_engine (ts := []) rfl, withTurns_nil_eq_self ht]
  · rw [step_of_turns_nil_of_high ht hn, if_neg (by simp [hb]), step_of_turns_host (ts := []) rfl, withTurns_nil_eq_self ht]
  · rw [step_of_turns_engine ht, engineStep_of_idle (s := { s with turns := ts }) hb]
  · rw [step_of_turns_host ht, hostStep_of_host_nil (s := { s with turns := ts }) hh]

/-! ### Every step goes on -/

/-- SRST resets and every other command completes: no meaning faults or refuses. -/
theorem exists_exec_eq_next (i : Instr) (s : State) : ∃ t, exec i s = .next t := by
  by_cases hi : i = .srst
  · exact ⟨s.softReset, by rw [hi]; rfl⟩
  · obtain ⟨o, ho⟩ := exec_completes i s hi
    exact ⟨_, ho⟩

theorem exists_engineStep_eq_next (s : State) : ∃ t, engineStep s = .next t := by
  unfold engineStep
  split
  · exact ⟨_, rfl⟩
  · split
    · exact exists_exec_eq_next _ s
    · exact ⟨_, rfl⟩

theorem exists_writeStep_eq_next (a : Addr) (v : Word) (s : State) : ∃ t, writeStep a v s = .next t := by
  unfold writeStep
  split
  · exact exists_exec_eq_next _ s
  · exact ⟨_, rfl⟩

theorem exists_hostStep_eq_next (s : State) : ∃ t, hostStep s = .next t := by
  unfold hostStep
  split
  · exact ⟨_, rfl⟩
  · exact ⟨_, rfl⟩
  · exact ⟨_, rfl⟩
  · split
    · exact exists_writeStep_eq_next _ _ _
    · exact ⟨_, rfl⟩

/-- Settles O52: by who moves, down to the meanings of the commands. -/
theorem everyStepGoesOn : Obligations.EveryStepGoesOn := by
  intro s
  unfold GoesOn step
  split
  · split
    · exact exists_engineStep_eq_next s
    · exact exists_hostStep_eq_next s
  · exact exists_hostStep_eq_next _
  · exact exists_engineStep_eq_next _
  · exact ⟨_, rfl⟩
  · exact ⟨_, rfl⟩

end Sys2Proof.Machine
end

section
/-! PROOF. The code a command completes with, and that an error leaves the completion update alone (60 R160 to R163, R165). -/
namespace Sys2Proof.Machine
open Sys2Proof.Claims

/-! ### The code of a completion -/

/-- The code a check raises; `.none` where it passes. -/
def errorOf {α : Type} : Except ErrorCode α → ErrorCode
  | .ok _ => .none
  | .error e => e

/-- The code the operand checks of a command raise (40 R103, 41 R116, R117, 42 R135). -/
def operandError : Instr → ErrorCode
  | .rcon i => errorOf (checkRcon i)
  | .expand klen rounds => errorOf (checkExpand klen rounds)
  | .derive nk off => errorOf (checkDerive nk off)
  | .enc klen blen | .dec klen blen | .enct klen blen | .dect klen blen => errorOf (checkCipher klen blen)
  | .nop | .gfmul _ _ | .sbox _ | .invsbox _ | .mixcol | .invmixcol | .srst => .none

/-- The code a word completes with: its rejection's, or its command's. -/
def completionCode (w : Word) : ErrorCode :=
  match decode w with
  | .ok i => operandError i
  | .error e => decodeErrorCode e

/-- From `s` the outcome is the completion update with OP `op` and code `e`, after writes that leave CMD, and after none of
them where there is an error (60 R161, R163). -/
def FinishesWith (s : State) (op : Byte) (e : ErrorCode) (outcome : Host.Outcome State Fault Refusal) : Prop :=
  ∃ t, outcome = .next (t.finish op e) ∧ t.cmd = s.cmd ∧ (e ≠ .none → t = s)

/-- A command without operand checks finishes with code 0. -/
theorem finishesWith_none {s t : State} (op : Byte) (hcmd : t.cmd = s.cmd) :
    FinishesWith s op .none (complete op s (.ok t)) := ⟨t, rfl, hcmd, fun h => absurd rfl h⟩

/-- A command that writes after a check finishes with the check's code. -/
theorem finishesWith_errorOf {α : Type} {s : State} (op : Byte) (check : Except ErrorCode α) {writes : α → State}
    (hcmd : ∀ a, (writes a).cmd = s.cmd) : FinishesWith s op (errorOf check) (complete op s (check.map writes)) := by
  cases check with
  | ok a => exact finishesWith_none op (hcmd a)
  | error e => exact ⟨s, rfl, rfl, fun _ => rfl⟩

/-- Every command but SRST finishes with the code of its operand checks. -/
theorem exec_finishesWith {i : Instr} (hi : i ≠ .srst) (s : State) :
    FinishesWith s i.opcode (operandError i) (exec i s) := by
  cases i with
  | srst => exact absurd rfl hi
  | rcon | expand | derive | enc | dec | enct | dect => exact finishesWith_errorOf _ _ fun _ => rfl
  | nop | gfmul | sbox | invsbox | mixcol | invmixcol => exact finishesWith_none _ rfl

/-- A completion with an error after no writes is the failure of the statements. -/
theorem finish_eq_failure (s : State) (op : Byte) {e : ErrorCode} (he : e ≠ .none) : s.finish op e = failure op e s := by
  rw [State.finish, decide_eq_true he]
  rfl

theorem decodeErrorCode_ne_none (e : DecodeError) : decodeErrorCode e ≠ .none := by cases e <;> decide

/-- The engine's step finishes the word in PEND with its code. -/
theorem engineStep_finishesWith {s : State} {w : Word} (hn : s.rstN = true) (hp : s.pend = some w) (hw : w ≠ srstWord) :
    FinishesWith s (opField w) (completionCode w) (engineStep s) := by
  unfold completionCode
  cases hd : decode w with
  | ok i =>
    have hi : i ≠ .srst := by
      rintro rfl
      exact hw (eq_srstWord_of_decode hd)
    rw [engineStep_of_decode_ok hn hp hd, opField_of_decode hd]
    exact exec_finishesWith hi s
  | error e =>
    rw [engineStep_of_decode_error hn hp hd, ← finish_eq_failure s _ (decodeErrorCode_ne_none e)]
    exact ⟨s, rfl, rfl, fun _ => rfl⟩

/-- Settles O18: the engine's step ends in the completion update; what comes before it is by the word's decoding. -/
theorem completionUpdate : Obligations.CompletionUpdate := by
  refine fun s hn => ⟨engineStep_of_idle, fun w hp hw => ?_⟩
  obtain ⟨t, ht, -, -⟩ := engineStep_finishesWith hn hp hw
  refine ⟨_, ht, rfl, rfl, rfl, rfl, rfl, rfl, fun i hd => ?_, fun e hd => ?_⟩
  · rw [← engineStep_of_decode_ok hn hp hd, ht]
  · rw [engineStep_of_decode_error hn hp hd] at ht
    exact (Host.Outcome.next.inj ht).symm

/-- Settles O20: the code is the one the engine's step finishes with, and with an error it finishes after no writes. -/
theorem failedCommandChangesOnlyStatus : Obligations.FailedCommandChangesOnlyStatus := by
  intro s t w hn hp hw ht he
  obtain ⟨t', ht', -, hself⟩ := engineStep_finishesWith hn hp hw
  obtain rfl : t = t'.finish (opField w) (completionCode w) := Host.Outcome.next.inj (ht.symm.trans ht')
  rw [State.finish_ecode] at he ⊢
  rw [hself he, finish_eq_failure s _ he]

/-! ### The code's number is the first error in the order of R162 -/

theorem errorNumber_ne_zero_iff (e : ErrorCode) : (errorNumber e).toNat ≠ 0 ↔ e ≠ .none := by cases e <;> decide

theorem errorNumber_checkRcon (i : Byte) : (errorNumber (errorOf (checkRcon i))).toNat = if i.toNat = 0 then 8 else 0 := by
  unfold checkRcon
  split <;> rfl

theorem errorNumber_checkExpand (klen rounds : Byte) : (errorNumber (errorOf (checkExpand klen rounds))).toNat =
    if ¬ KeyLength klen then 3 else if rounds.toNat < 1 ∨ 14 < rounds.toNat then 7 else 0 := by
  by_cases hk : KeyLength klen
  · rw [if_neg (not_not.mpr hk)]
    obtain ⟨k, rfl⟩ := keyLength_iff.mp hk
    rw [checkExpand_bytes]
    split <;> rfl
  · rw [if_pos hk, checkExpand_of_not_keyLength hk]
    rfl

theorem errorNumber_checkDerive (nk off : Byte) : (errorNumber (errorOf (checkDerive nk off))).toNat =
    if ¬ (nk.toNat = 4 ∨ nk.toNat = 6 ∨ nk.toNat = 8) then 5 else if 60 < off.toNat + nk.toNat then 6 else 0 := by
  have hnk : nk.toNat = 4 ∨ nk.toNat = 6 ∨ nk.toNat = 8 ↔ nk = 4 ∨ nk = 6 ∨ nk = 8 := by simp [← BitVec.toNat_inj]
  by_cases hseg : nk = 4 ∨ nk = 6 ∨ nk = 8
  · rw [if_neg (not_not.mpr (hnk.mpr hseg))]
    obtain ⟨k, hsize, hk⟩ := exists_sizeOfSegment hseg
    rw [checkDerive_of_size hsize, hk]
    split <;> rfl
  · rw [if_pos (mt hnk.mp hseg), checkDerive_of_not_segment hseg]
    rfl

theorem errorNumber_checkCipher (klen blen : Byte) : (errorNumber (errorOf (checkCipher klen blen))).toNat =
    if blen.toNat ≠ 16 then 4 else if ¬ KeyLength klen then 3 else 0 := by
  by_cases hb : blen = 16
  · subst hb
    rw [if_neg (by decide)]
    by_cases hk : KeyLength klen
    · rw [if_neg (not_not.mpr hk)]
      obtain ⟨k, rfl⟩ := keyLength_iff.mp hk
      rw [checkCipher_bytes]
      rfl
    · rw [if_pos hk, checkCipher_of_not_keyLength hk]
      rfl
  · have hb' : blen.toNat ≠ 16 := fun h => hb (BitVec.eq_of_toNat_eq h)
    rw [if_pos hb', checkCipher_of_ne hb]
    rfl

/-- The OP of a command is assigned (30 R75). -/
theorem exists_usedFields_opcode (i : Instr) : ∃ n, usedFields i.opcode = some n := by
  cases i <;> exact ⟨_, rfl⟩

/-- The word of a command has no error before its operand checks, and then the first of theirs. -/
theorem firstError_encode (i : Instr) : firstError (encode i) = (errorNumber (operandError i)).toNat := by
  obtain ⟨n, hused⟩ := exists_usedFields_opcode i
  have hop : opField (encode i) = i.opcode := opField_encFields _ _ _
  have hlegal : ¬ IllegalOpcode (opField (encode i)) := by simp [hop, illegalOpcode_iff, hused]
  have hzero : ¬ ReservedSet (encode i) := by
    have hwf : (fieldsOf (encode i)).wf = true := exists_decodeFields_eq_ok_iff.mp ⟨i, decode_encode i⟩
    rw [reservedSet_iff (hop ▸ hused), hwf]
    nofun
  rw [firstError, if_neg hlegal, if_neg hzero]
  simp only [encode, opField_encFields, faField_encFields, fbField_encFields]
  cases i with
  | rcon x => exact (errorNumber_checkRcon x).symm
  | expand klen rounds => exact (errorNumber_checkExpand klen rounds).symm
  | derive nk off => exact (errorNumber_checkDerive nk off).symm
  | enc klen blen | dec klen blen | enct klen blen | dect klen blen => exact (errorNumber_checkCipher klen blen).symm
  | nop | gfmul | sbox | invsbox | mixcol | invmixcol | srst => rfl

/-- The first error of a word that is no command is its rejection's (30 R75, R76). -/
theorem firstError_of_decode_error {w : Word} {e : DecodeError} (h : decode w = .error e) :
    firstError w = (errorNumber (decodeErrorCode e)).toNat := by
  obtain ⟨hop, hd⟩ | ⟨hop, hwf, hd⟩ | ⟨-, i, hd⟩ := decodeFields_cases (fieldsOf w)
  · obtain rfl : DecodeError.illegalOp = e := Except.error.inj (hd.symm.trans h)
    have hillegal : IllegalOpcode (opField w) :=
      (illegalOpcode_iff _).mpr (Option.not_isSome_iff_eq_none.mp (Bool.eq_false_iff.mp hop))
    rw [firstError, if_pos hillegal]
    rfl
  · obtain rfl : DecodeError.reserved = e := Except.error.inj (hd.symm.trans h)
    obtain ⟨n, hused⟩ : ∃ n, usedFields (opField w) = some n := Option.isSome_iff_exists.mp hop
    have hlegal : ¬ IllegalOpcode (opField w) := by simp [illegalOpcode_iff, hused]
    rw [firstError, if_neg hlegal, if_pos ((reservedSet_iff hused).mpr hwf)]
    rfl
  · cases hd.symm.trans h

theorem firstError_eq_errorNumber (w : Word) : firstError w = (errorNumber (completionCode w)).toNat := by
  unfold completionCode
  cases hd : decode w with
  | ok i => rw [(decodeInvertsEncode w i).mp hd, firstError_encode]
  | error e => exact firstError_of_decode_error hd

/-- Settles O19: the number of the code the engine's step finishes with, read through the fields of STATUS. -/
theorem firstErrorIsReported : Obligations.FirstErrorIsReported := by
  intro s w hn hp hw
  obtain ⟨t, ht, hcmd, -⟩ := engineStep_finishesWith hn hp hw
  have hstatus := statusAndInfoFields (t.finish (opField w) (completionCode w))
  obtain ⟨-, -, herr, -, -, -, hcode, -, hlastop, -⟩ := hstatus
  refine ⟨_, ht, ?_, ?_, hlastop, hcmd⟩
  · rw [hcode, firstError_eq_errorNumber]
    rfl
  · rw [herr, firstError_eq_errorNumber, errorNumber_ne_zero_iff]
    exact decide_eq_true_iff

/-! ### The interrupt line -/

/-- Settles O17: the bits the host reads are the fields the line is made of. -/
theorem interruptLine : Obligations.InterruptLine := by
  intro s
  obtain ⟨-, hdone, herr, hovr, -⟩ := statusAndInfoFields s
  obtain ⟨-, hirqen⟩ := irqenWrite
  obtain ⟨hdoneIE, herrIE, -⟩ := hirqen s
  rw [hdone, herr, hovr, hdoneIE, herrIE]
  exact ⟨fun hn => by rw [State.irq, hn, Bool.true_and], fun hn => by rw [State.irq, hn, Bool.false_and]⟩

end Sys2Proof.Machine
end

section
/-! PROOF. The reset pin (70 R185, R196; log 8, log 14): what each mover does while it is low, and what driving it leaves. -/
namespace Sys2Proof.Machine

section
variable {s : State} {ts : List Turn} {rest : List HostOp}

/-- Driving the pin is no event only when it is high and driven high. -/
theorem drivePin_eq_setPin {level : Bool} (h : (s.rstN && level) = false) : s.drivePin level = s.setPin level := by
  rw [State.drivePin, if_neg (by simp [h])]

/-- While the pin is low no command completes. -/
theorem engineStep_of_low (hlow : s.rstN = false) : engineStep s = .next s := by
  have hflight : s.inFlight = none := by simp [State.inFlight, hlow]
  simp only [engineStep, hflight]

/-- While the pin is low the sequencer stands still. -/
theorem advanceSeq_of_low (hlow : s.rstN = false) : s.advanceSeq = s :=
  congrArg s.withSeq (if_neg (by simp [hlow]))

/-- While the pin is low a step is the host's when its turn is next, and when no turn is left. -/
theorem step_eq_hostStep_of_low (hlow : s.rstN = false) (h : s.turns = .host :: ts ∨ (s.turns = [] ∧ ts = [])) :
    step s = hostStep { s with turns := ts } := by
  obtain hhost | ⟨hnil, rfl⟩ := h
  · exact step_of_turns_host hhost
  · have hflight : s.inFlight = none := by simp [State.inFlight, hlow]
    rw [step_of_turns_nil hnil, hflight, withTurns_nil_eq_self hnil]
    rfl

/-- A WAIT stays at the head of the program while the pin is low (log 8). -/
theorem hostStep_wait_of_low (hlow : s.rstN = false) (h : s.host = .wait :: rest) : hostStep s = .next s.noResponse := by
  rw [hostStep_of_host_wait h, State.poll, if_neg (by simp [hlow])]

/-- A transaction is consumed without a response while the pin is low (log 8). -/
theorem hostStep_transaction_of_low (hlow : s.rstN = false) {op : HostOp} (h : s.host = op :: rest) (hop : op ≠ .wait) :
    hostStep s = .next { s with host := rest }.noResponse := by
  have hpin : ¬ s.rstN = true := by simp [hlow]
  cases op with
  | wait => exact absurd rfl hop
  | read a => rw [hostStep_of_host_read h, if_neg hpin]
  | write a v => rw [hostStep_of_host_write h, if_neg hpin]

end

/-- Settles O51: by the turn taken; while the pin is low every mover but the pin finds its step not enabled or unanswered. -/
theorem resetPin : Obligations.ResetPin := by
  refine fun s ts => ⟨fun h => ?_, fun h hlow => ?_, fun hlow h => ?_, fun hlow h => ?_, fun hlow => ?_⟩
  · rw [step_of_turns_pin h, drivePin_eq_setPin (Bool.and_false _)]
    rfl
  · rw [step_of_turns_pin h, drivePin_eq_setPin (s := { s with turns := ts }) (by simp [hlow])]
    rfl
  · obtain h | h := h
    · rw [step_of_turns_engine h, engineStep_of_low (s := { s with turns := ts }) hlow]
    · rw [step_of_turns_stage h, advanceSeq_of_low (s := { s with turns := ts }) hlow]
  · rw [step_eq_hostStep_of_low hlow h]
    exact ⟨hostStep_of_host_nil (s := { s with turns := ts }),
      fun rest => hostStep_wait_of_low (s := { s with turns := ts }) hlow,
      fun op rest => hostStep_transaction_of_low (s := { s with turns := ts }) hlow⟩
  · simp [State.irq, hlow]

end Sys2Proof.Machine
end

section
/-! PROOF. An accepted command ends (70 R177, R193; log 1): each step takes a turn, and with none left the engine moves. -/
namespace Sys2Proof.Machine

/-- The pin and the turns laid down are the same in two states. -/
abbrev SameSchedule (s t : State) : Prop := t.rstN = s.rstN ∧ t.turns = s.turns

section
variable {s t : State}

theorem busRead_sameSchedule (s : State) (a : Addr) : SameSchedule s (s.busRead a) := by
  rcases busRead_cases s a with ⟨-, h⟩ | ⟨_, -, -, -, h⟩ | ⟨_, -, -, h⟩ <;> rw [h] <;> exact ⟨rfl, rfl⟩

theorem poll_sameSchedule (s : State) (rest : List HostOp) : SameSchedule s (s.poll rest) := by
  unfold State.poll
  split
  · split <;> exact busRead_sameSchedule s _
  · exact ⟨rfl, rfl⟩

theorem writeReg_sameSchedule (s : State) (r : Reg) (v : Word) : SameSchedule s (s.writeReg r v) := by
  rcases writeReg_cases s r v with ⟨-, h⟩ | ⟨-, h⟩ | ⟨-, h⟩ | ⟨-, -, h⟩ | ⟨-, -, h⟩ | ⟨-, -, h⟩ <;> rw [h]
  case inr.inr.inr.inr.inr => exact ⟨State.setInput_rstN s r v, State.setInput_turns s r v⟩
  all_goals exact ⟨rfl, rfl⟩

theorem writeStep_sameSchedule {a : Addr} {v : Word} (h : writeStep a v s = .next t) : SameSchedule s t := by
  obtain ⟨-, -, rfl⟩ | ⟨-, rfl⟩ := writeStep_cases h
  · exact ⟨rfl, rfl⟩
  · cases ha : regAt a with
    | none => rw [busWrite_of_regAt_none ha]; exact ⟨rfl, rfl⟩
    | some r => rw [busWrite_of_regAt_some ha]; exact writeReg_sameSchedule s r v

/-- No transaction of the host's, SRST among them, lays down a turn or drives the pin. -/
theorem hostStep_sameSchedule (h : hostStep s = .next t) : SameSchedule s t := by
  rcases hostStep_cases h with ⟨-, rfl⟩ | ⟨rest, -, rfl⟩ | ⟨a, rest, -, -, rfl⟩ | ⟨a, v, rest, -, -, hw⟩ | ⟨_, rest, -, -, rfl⟩
  · exact ⟨rfl, rfl⟩
  · exact poll_sameSchedule s rest
  · exact busRead_sameSchedule { s with host := rest } a
  · exact writeStep_sameSchedule (s := { s with host := rest }) hw
  · exact ⟨rfl, rfl⟩

/-- A pin event abandons the command in flight; driven high while high, the pin changes nothing. -/
theorem drivePin_idle_or_eq_self (s : State) (level : Bool) : (s.drivePin level).busy = false ∨ s.drivePin level = s := by
  unfold State.drivePin
  split
  · exact .inr rfl
  · exact .inl rfl

/-- With the pin released the engine's step leaves BUSY = 0 (60 R161). -/
theorem engineStep_busy_eq_false (hn : s.rstN = true) (h : engineStep s = .next t) : t.busy = false := by
  rcases engineStep_cases h with ⟨hflight, rfl⟩ | ⟨w, i, -, -, hx⟩ | ⟨w, e, -, -, rfl⟩
  · simpa [State.inFlight, hn, State.busy] using hflight
  · obtain ⟨-, rfl⟩ | ⟨-, o, rfl⟩ := exec_cases hx
    · rfl
    · exact completed_busy i.opcode s o
  · rfl

/-- A step that takes a turn ends the command in flight, or leaves the pin released and the turns that follow. -/
theorem step_ends_or_takes_turn {turn : Turn} {ts : List Turn} (hn : s.rstN = true) (ht : s.turns = turn :: ts)
    (h : step s = .next t) : t.busy = false ∨ (t.rstN = true ∧ t.turns = ts) := by
  cases turn with
  | host =>
    rw [step_of_turns_host ht] at h
    obtain ⟨hpin, hturns⟩ := hostStep_sameSchedule h
    exact .inr ⟨hpin.trans hn, hturns⟩
  | engine =>
    rw [step_of_turns_engine ht] at h
    exact .inl (engineStep_busy_eq_false (s := { s with turns := ts }) hn h)
  | stage =>
    rw [step_of_turns_stage ht] at h
    cases h
    exact .inr ⟨hn, rfl⟩
  | pin level =>
    rw [step_of_turns_pin ht] at h
    cases h
    refine (drivePin_idle_or_eq_self { s with turns := ts } level).imp_right fun hself => ?_
    rw [hself]
    exact ⟨hn, rfl⟩

/-- A run of one step more is the step, then the run. -/
theorem run_succ_of_step {u : State} (h : step s = .next u) (n : Nat) : core.run (n + 1) s = core.run n u := by
  simp only [Host.Core.run, core, h]

end

/-- Settles O58: by induction on the turns laid down; with none left the engine completes the command. -/
theorem acceptedCommandEnds : Obligations.AcceptedCommandEnds := by
  intro s hb hn
  induction hturns : s.turns generalizing s with
  | nil =>
    obtain ⟨u, hu⟩ := everyStepGoesOn s
    refine ⟨1, u, le_rfl, run_succ_of_step hu 0, ?_⟩
    rw [step_of_turns_nil_of_high hturns hn, if_pos hb] at hu
    exact engineStep_busy_eq_false hn hu
  | cons turn ts ih =>
    obtain ⟨u, hu⟩ := everyStepGoesOn s
    cases hub : u.busy with
    | false => exact ⟨1, u, by simp, run_succ_of_step hu 0, hub⟩
    | true =>
      obtain hidle | ⟨hpin, hrest⟩ := step_ends_or_takes_turn hn hturns hu
      · exact absurd hub (by simp [hidle])
      · obtain ⟨n, t, hle, hrun, hend⟩ := ih u hub hpin hrest
        exact ⟨n + 1, t, by simpa using hle, (run_succ_of_step hu n).trans hrun, hend⟩

end Sys2Proof.Machine
end

section
/-! PROOF. What a command answers is a function of the command and the operand registers (70 R192): its code by its operand
checks, its outputs by what it writes once they pass. -/
namespace Sys2Proof.Machine
open Sys2Proof.Claims

/-! ### The checks raise codes, and code 0 says that they passed -/

theorem ne_none_of_checkRcon {i : Byte} {e : ErrorCode} (h : checkRcon i = .error e) : e ≠ .none := by
  unfold checkRcon at h
  split at h <;> cases h
  decide

theorem ne_none_of_checkExpand {klen rounds : Byte} {e : ErrorCode} (h : checkExpand klen rounds = .error e) :
    e ≠ .none := by
  unfold checkExpand at h
  split at h
  · cases h; decide
  · split at h <;> cases h
    decide

theorem ne_none_of_checkDerive {nk off : Byte} {e : ErrorCode} (h : checkDerive nk off = .error e) : e ≠ .none := by
  unfold checkDerive at h
  split at h
  · cases h; decide
  · split at h <;> cases h
    decide

section
variable {s s' t t' : State}

/-- Of two completions after one check, if the first has code 0 the check passed, and both write for what it gave. -/
theorem exists_writes_of_ecode_none {α : Type} {op : Byte} {check : Except ErrorCode α}
    (hcodes : ∀ e, check = .error e → e ≠ .none) {writes : State → α → State}
    (h : complete op s (check.map (writes s)) = .next t) (h' : complete op s' (check.map (writes s')) = .next t')
    (hcode : t.ecode = .none) :
    ∃ a, t = (writes s a).finish op .none ∧ t' = (writes s' a).finish op .none := by
  cases hcheck : check with
  | error e =>
    rw [hcheck] at h
    cases h
    exact absurd hcode (hcodes e hcheck)
  | ok a =>
    rw [hcheck] at h h'
    cases h
    cases h'
    exact ⟨a, rfl, rfl⟩

/-- The same of a block command. -/
theorem CompletesBy.exists_writes {op klen blen : Byte} {cmd : Byte → Byte → Instr} {writes : State → KeySize → State}
    (hby : CompletesBy op cmd writes) (h : exec (cmd klen blen) s = .next t) (h' : exec (cmd klen blen) s' = .next t')
    (hcode : t.ecode = .none) :
    ∃ k, t = (writes s k).finish op .none ∧ t' = (writes s' k).finish op .none := by
  rw [hby] at h h'
  exact exists_writes_of_ecode_none (fun _ => ne_none_of_checkCipher) h h' hcode

/-! ### What the commands compute from the input registers -/

theorem inputColumn_congr (hin : SameInputs s s') : inputColumn s' = inputColumn s := by
  obtain ⟨hxin, -, -, -⟩ := hin
  rw [inputColumn, hxin, inputColumn]

theorem keyWords_congr (hin : SameInputs s s') (k : KeySize) : keyWords s' k = keyWords s k := by
  obtain ⟨-, hkey, -, -⟩ := hin
  rw [keyWords, hkey, keyWords]

theorem segWords_congr (hin : SameInputs s s') (k : KeySize) : segWords s' k = segWords s k := by
  obtain ⟨-, -, -, hseg⟩ := hin
  rw [segWords, hseg, segWords]

theorem inputBlock_congr (hin : SameInputs s s') : inputBlock s' = inputBlock s := by
  obtain ⟨-, -, hbin, -⟩ := hin
  rw [inputBlock, hbin, inputBlock]

theorem encryptRun_congr (hin : SameInputs s s') (k : KeySize) : encryptRun s' k = encryptRun s k := by
  rw [encryptRun, inputBlock_congr hin, keyWords_congr hin, encryptRun]

theorem decryptRun_congr (hin : SameInputs s s') (k : KeySize) : decryptRun s' k = decryptRun s k := by
  rw [decryptRun, inputBlock_congr hin, keyWords_congr hin, decryptRun]

/-! ### The outputs, by the unit -/

/-- RESULT after a GF command (40 R100 to R105). -/
theorem result_congr_of_gfCommand {i : Instr} (hi : gfCommand i = true) (hin : SameInputs s s')
    (h : exec i s = .next t) (h' : exec i s' = .next t') (hcode : t.ecode = .none) : t.result = t'.result := by
  cases i with
  | gfmul | sbox | invsbox => cases h; cases h'; rfl
  | mixcol =>
    cases h; cases h'
    exact congrArg (fun x => packWord (mixcol x)) (inputColumn_congr hin).symm
  | invmixcol =>
    cases h; cases h'
    exact congrArg (fun x => packWord (invmixcol x)) (inputColumn_congr hin).symm
  | rcon n =>
    obtain ⟨m, rfl, rfl⟩ := exists_writes_of_ecode_none (writes := fun u m => u.setResult (packWord (rconColumn m)))
      (fun _ => ne_none_of_checkRcon) h h' hcode
    rfl
  | _ => cases hi

/-- SCHED and SCHEDLEN are the same in two states (10 R26, R34). -/
abbrev SameSched (t t' : State) : Prop := t.sched = t'.sched ∧ t.schedLen = t'.schedLen

/-- SCHED and SCHEDLEN after EXPAND (41 R116). -/
theorem expand_sameSched {klen rounds : Byte} (hin : SameInputs s s') (h : exec (.expand klen rounds) s = .next t)
    (h' : exec (.expand klen rounds) s' = .next t') (hcode : t.ecode = .none) : SameSched t t' := by
  obtain ⟨k, rfl, rfl⟩ := exists_writes_of_ecode_none (writes := fun u k => u.expanded k rounds.toNat)
    (fun _ => ne_none_of_checkExpand) h h' hcode
  rw [State.expanded, State.expanded, keyWords_congr hin]
  exact ⟨rfl, rfl⟩

/-- SCHED, SCHEDLEN, KOUT and KOLEN after DERIVE (41 R117). -/
theorem derive_sameOutputs {nk off : Byte} (hin : SameInputs s s') (h : exec (.derive nk off) s = .next t)
    (h' : exec (.derive nk off) s' = .next t') (hcode : t.ecode = .none) :
    SameSched t t' ∧ t.kout = t'.kout ∧ t.koLen = t'.koLen := by
  obtain ⟨k, rfl, rfl⟩ := exists_writes_of_ecode_none (writes := fun u k => u.derived k off.toNat)
    (fun _ => ne_none_of_checkDerive) h h' hcode
  rw [State.derived, State.derived, segWords_congr hin]
  exact ⟨⟨rfl, rfl⟩, rfl, rfl⟩

/-- The outputs of every block command are the same in two states: BOUT, the schedule, and the trace's flags (42 R135). -/
abbrev SameBlockOutputs (t t' : State) : Prop :=
  SameSched t t' ∧ t.bout = t'.bout ∧ t.tv = t'.tv ∧ t.tnum = t'.tnum ∧ t.tdir = t'.tdir

theorem plainWrites_sameBlockOutputs {run : State → KeySize → CipherRun} {k : KeySize} (hrun : run s' k = run s k) (op : Byte) :
    SameBlockOutputs ((plainWrites run s k).finish op .none) ((plainWrites run s' k).finish op .none) := by
  rw [plainWrites, plainWrites, hrun]
  exact ⟨⟨rfl, rfl⟩, rfl, rfl, rfl, rfl⟩

theorem tracedWrites_sameBlockOutputs {run : State → KeySize → CipherRun} {k : KeySize} (hrun : run s' k = run s k) (d : Dir)
    (op : Byte) :
    SameBlockOutputs ((tracedWrites d run s k).finish op .none) ((tracedWrites d run s' k).finish op .none) ∧
      ((tracedWrites d run s k).finish op .none).trace = ((tracedWrites d run s' k).finish op .none).trace := by
  rw [tracedWrites, tracedWrites, hrun]
  exact ⟨⟨⟨rfl, rfl⟩, rfl, rfl, rfl, rfl⟩, rfl⟩

/-- The outputs of a block command, and the trace buffer of a traced one (42 R135 to R138). -/
theorem blockCommand_sameOutputs {i : Instr} (hi : blockCommand i = true) (hin : SameInputs s s')
    (h : exec i s = .next t) (h' : exec i s' = .next t') (hcode : t.ecode = .none) :
    SameBlockOutputs t t' ∧ (tracedCommand i = true → t.trace = t'.trace) := by
  cases i with
  | enc klen blen =>
    obtain ⟨k, rfl, rfl⟩ := enc_completesBy.exists_writes h h' hcode
    exact ⟨plainWrites_sameBlockOutputs (encryptRun_congr hin k) _, nofun⟩
  | dec klen blen =>
    obtain ⟨k, rfl, rfl⟩ := dec_completesBy.exists_writes h h' hcode
    exact ⟨plainWrites_sameBlockOutputs (decryptRun_congr hin k) _, nofun⟩
  | enct klen blen =>
    obtain ⟨k, rfl, rfl⟩ := enct_completesBy.exists_writes h h' hcode
    exact (tracedWrites_sameBlockOutputs (encryptRun_congr hin k) _ _).imp_right fun htrace _ => htrace
  | dect klen blen =>
    obtain ⟨k, rfl, rfl⟩ := dect_completesBy.exists_writes h h' hcode
    exact (tracedWrites_sameBlockOutputs (decryptRun_congr hin k) _ _).imp_right fun htrace _ => htrace
  | _ => cases hi

/-- The schedule after a command of the key schedule (41 R116, R117). -/
theorem keyCommand_sameSched {i : Instr} (hi : keyCommand i = true) (hin : SameInputs s s')
    (h : exec i s = .next t) (h' : exec i s' = .next t') (hcode : t.ecode = .none) : SameSched t t' := by
  cases i with
  | expand klen rounds => exact expand_sameSched hin h h' hcode
  | derive nk off =>
    obtain ⟨hsched, -⟩ := derive_sameOutputs hin h h' hcode
    exact hsched
  | _ => cases hi

theorem blockCommand_of_tracedCommand {i : Instr} (hi : tracedCommand i = true) : blockCommand i = true := by
  cases i with
  | enct | dect => rfl
  | _ => cases hi

/-- The code, ERR and LASTOP of a completion are the command's own. -/
theorem completion_flags {i : Instr} (hi : i ≠ .srst) (h : exec i s = .next t) :
    t.ecode = operandError i ∧ t.err = decide (operandError i ≠ .none) ∧ t.lastop = i.opcode := by
  obtain ⟨u, hu, -⟩ := exec_finishesWith hi s
  obtain rfl : t = u.finish i.opcode (operandError i) := Host.Outcome.next.inj (h.symm.trans hu)
  exact ⟨rfl, rfl, rfl⟩

end

/-- Settles O59: the flags are the command's own, the outputs are computed from the input registers, unit by unit. -/
theorem outputsDependOnlyOnOperands : Obligations.OutputsDependOnlyOnOperands := by
  intro i s s' t t' hi hin h h'
  obtain ⟨hecode, herr, hlastop⟩ := completion_flags hi h
  obtain ⟨hecode', herr', hlastop'⟩ := completion_flags hi h'
  refine ⟨hecode.trans hecode'.symm, herr.trans herr'.symm, hlastop.trans hlastop'.symm, fun hcode => ⟨?_, ?_, ?_, ?_, ?_⟩⟩
  · exact fun hgf => result_congr_of_gfCommand hgf hin h h' hcode
  · rintro (hkey | hblock)
    · exact keyCommand_sameSched hkey hin h h' hcode
    · obtain ⟨⟨hsched, -⟩, -⟩ := blockCommand_sameOutputs hblock hin h h' hcode
      exact hsched
  · rintro ⟨nk, off, rfl⟩
    obtain ⟨-, hkout⟩ := derive_sameOutputs hin h h' hcode
    exact hkout
  · intro hblock
    obtain ⟨⟨-, hbout⟩, -⟩ := blockCommand_sameOutputs hblock hin h h' hcode
    exact hbout
  · intro htraced
    obtain ⟨-, htrace⟩ := blockCommand_sameOutputs (blockCommand_of_tracedCommand htraced) hin h h' hcode
    exact htrace htraced

end Sys2Proof.Machine
end
